-- ==== Sys2Proof/Word.lean ====
section
/-! DEFINITION. The value types of the DALI bus master: bytes and the closed enumerations of spec files
10_state.md and 30_encoding.md.  Nothing here computes; numeric codes are in `Decode.lean`. -/

namespace Sys2Proof

/-- A byte: 8 bits, bit 0 least significant (R10). -/
abbrev Byte := BitVec 8

/-- A value of an opaque type of the host's platform, as a handle of any number of bytes.  The block carries it and never
reads it (R24, R95, notes/assumptions/7.md, DESIGN CHOICE). -/
abbrev Handle := List Byte

/-- A completion callback.  Which handles are values of `CB_T` says the parameter `cbT` (R8). -/
abbrev CbT := Handle

/-- A caller option.  Which handles are values of `OPT_T` says the parameter `optT` (R8). -/
abbrev OptT := Handle

/-- `ctl_state` (R21, R102). -/
inductive CtlState where
  | idle | wait
  deriving DecidableEq, Repr

/-- `xmt_state` (R22, R102): a six-value enumeration, so codes 6 and 7 cannot be expressed. -/
inductive XmtState where
  | idle | waitXmtDone | waitXmtEcho | waitRcvDone | waitFrameTime | waitBackFrameTime
  deriving DecidableEq, Repr

/-- The events of the control queue (R100, class 1). -/
inductive CtlEvt where
  | msgenq | xactdone
  deriving DecidableEq, Repr

/-- The events of the transmit queue (R100, class 2). -/
inductive XmtEvt where
  | start | timeout | manxmtdone | manrcvdone | manrcveror | edgeseen
  deriving DecidableEq, Repr

/-- `AnswerExpectation` (R28, R103). -/
inductive AnswerExpectation where
  | none | maybe | required | error
  deriving DecidableEq, Repr

/-- `ResultStatus` (R104): the ten statuses in the order the spec lists them. -/
inductive ResultStatus where
  | ok | rcvOk | rcvErr | xmtTimeout | busErr | echoErr | rcvTimeout | busCol | illOp | busMonBad
  deriving DecidableEq, Repr

/-- The `BusMessage` record, format MSG (R24, R95). -/
structure BusMessage where
  /-- address byte of the forward frame -/
  addr : Byte
  /-- data/command byte of the forward frame -/
  data : Byte
  /-- completion callback, may be absent -/
  cb : Option CbT
  /-- opaque caller option -/
  opt : OptT
  /-- received-response byte -/
  rsp : Byte
  /-- result status -/
  status : ResultStatus
  deriving DecidableEq, Repr

/-- The two buffers a `ManReceive` can name (R26). -/
inductive RxBuf where
  | echo | rspbuf
  deriving DecidableEq, Repr

/-- The bytes of the byte buffers (R60, R61).  An index outside a buffer is a model error of the spec (R61) and
has no name here. -/
inductive ByteAddr where
  | frame0 | frame1 | echo0 | echo1 | rspbuf0
  deriving DecidableEq, Repr

/-- The form of an address byte (R91, the DALI standard's layout as the spec gives it). -/
inductive AddrForm where
  | short (device : BitVec 6)
  | group (n : BitVec 4)
  | broadcast
  | special (code : BitVec 4)
  | reserved
  deriving DecidableEq, Repr

end Sys2Proof
end

