-- ==== Sys2Proof/Config.lean ====
section
/-! DEFINITION. What an implementation fixes: the parameters of R8 as plain data, and the free values.
The defaults of the parameters are in `Machine/Params.lean`. -/

namespace Sys2Proof

/-- `CTL_BUSY_ENQ` (R8, R234, R235). -/
inductive BusyEnq where
  | drop | defer
  deriving DecidableEq, Repr

/-- The DALI opcode constants `OPC.*` (R97, R98): configuration, so that a number can be replaced without
touching a rule. -/
structure Opc where
  spcDtr : Byte
  spcInitialise : Byte
  spcRandomise : Byte
  spcCompare : Byte
  spcWithdraw : Byte
  spcSearchaddrh : Byte
  spcSearchaddrm : Byte
  spcSearchaddrl : Byte
  spcProgramShortAddr : Byte
  spcVerifyShortAddr : Byte
  spcQueryShortAddr : Byte
  spcEnableDeviceType : Byte
  spcDtr1 : Byte
  spcDtr2 : Byte
  spcWriteMemoryLocation : Byte
  cmdReset : Byte
  cmdEnableWriteMemory : Byte
  cmdQueryStatus : Byte
  cmdQueryControlGearPresent : Byte
  cmdQueryMissingShortAddr : Byte
  cmdQueryVersionNumber : Byte
  cmdQueryPhysMinLevel : Byte
  cmdQueryPowerFailure : Byte
  cmdQueryContentDtr1 : Byte
  cmdQueryContentDtr2 : Byte
  cmdQueryActualLevel : Byte
  cmdQueryFadeRate : Byte
  cmdQuerySceneLevel : Byte
  cmdReadMemoryLocation : Byte
  cmdReferenceSystemPower : Byte
  cmdSelectDimmingCurve : Byte
  cmdQueryGearType : Byte
  cmdQueryExtVersionNumber : Byte
  deriving DecidableEq, Repr

/-- `STATUS_STR[0..9]` and `STATUS_STR_UNKNOWN` (R8, R251). -/
structure StatusStrings where
  ok : String
  rcvOk : String
  rcvErr : String
  xmtTimeout : String
  busErr : String
  echoErr : String
  rcvTimeout : String
  busCol : String
  illOp : String
  busMonBad : String
  unknown : String
  deriving DecidableEq, Repr

/-- An opaque type of the host's platform as plain data: which handles are its values (R8, U16; D36;
notes/assumptions/7.md). -/
inductive HandleType where
  /-- every handle -/
  | any
  /-- the handles of this many bytes: pointers and words of a platform -/
  | width (bytes : Nat)
  /-- the listed handles: any finite type -/
  | oneOf (first : Handle) (others : List Handle)
  deriving DecidableEq, Repr

/-- The parameters of R8 and, one flag each, the environment contracts a model may drop (R274, U15, U18).
They are fixed for a machine: no operation changes them (notes/assumptions/1.md). -/
structure Params where
  /-- `T_ECHO_MS` -/
  tEchoMs : Nat
  /-- `T_RCV_MS` -/
  tRcvMs : Nat
  /-- `T_FRAME_MS` -/
  tFrameMs : Nat
  /-- `T_BACK_MS` -/
  tBackMs : Nat
  /-- `MON_THRESHOLD`, 1 to 15 (D38) -/
  monThreshold : BitVec 4
  /-- `MON_PERIOD`, OPEN (D40): no rule reads it.  The spec calls it a duration and names no unit; a whole number of
  milliseconds, as the other durations are, is the model's choice (notes/assumptions/2.md, DESIGN CHOICE) -/
  monPeriodMs : Nat
  /-- `FRAME_LEN`: bytes of a forward frame and of its echo (D38) -/
  frameLen : Nat
  /-- `RSP_LEN`: bytes of a response (D38) -/
  rspLen : Nat
  /-- `QDEPTH`, at least 1 (D24) -/
  qdepth : Nat
  /-- `CB_T`, OPEN (D36): the type of a callback -/
  cbT : HandleType
  /-- `OPT_T`, OPEN (D36): the type of an option -/
  optT : HandleType
  /-- `CTL_BUSY_ENQ` -/
  ctlBusyEnq : BusyEnq
  /-- `OPC.*` -/
  opc : Opc
  /-- `STATUS_STR` -/
  strings : StatusStrings
  /-- the transmit contract R278 holds: no `MANXMTDONE` without a transmission in progress -/
  transmitContract : Bool
  /-- the receive contract R279 holds: no receive event without an armed receive, and `MANRCVDONE` only after as many
  bytes as armed -/
  receiveContract : Bool
  /-- the echo ordering obligation R280 holds: no `MANRCVDONE` of an echo before the `MANXMTDONE` of its frame -/
  echoOrderContract : Bool
  /-- the timer contract R281 holds: `TimerOn` and `TimerOff` withdraw a queued `TIMEOUT`, and `EXPIRE` needs
  an armed timer -/
  timerContract : Bool
  deriving DecidableEq, Repr

/-- The bounds R8 and D38 put on the parameters: `QDEPTH` at least 1, `MON_THRESHOLD` at least 1
(at most 15 by its type). -/
abbrev Params.wf (p : Params) : Prop := 1 ≤ p.qdepth ∧ p.monThreshold ≠ 0#4

/-- Free values (notes/assumptions/4.md): the content of a receive buffer while the Manual Transport owns it and
after a failed or aborted receive is unspecified (R66, U2, U6).  No body, so no proof can see a value. -/
opaque Config.freeByte : Nat → Byte

/-- The detection latency of the monitor, `MON_THRESHOLD × MON_PERIOD` (R163, R331), in milliseconds
(notes/assumptions/2.md, DESIGN CHOICE). -/
def Config.stuckTimeMs (p : Params) : Nat := p.monThreshold.toNat * p.monPeriodMs

end Sys2Proof
end

