-- ==== Sys2Proof/Syntax.lean ====
section
/-! DEFINITION. The operations of the block as syntax: one constructor of `Instr` per row of
spec/opcode_table.json (R3, R109), the encodings' formats, the rows of the two classifier functions, and the lines of
a stimulus script, which is the block's analog of an assembly program (R107, R108). -/

namespace Sys2Proof

/-- The formats of the opcode table (R90, R100, R101, R104).  The forward-frame format FF16 is read by two
functions (R109, `fields.function`), so it stands here once for each. -/
inductive Format where
  /-- EVT8: event code, followed by the operands of the call -/
  | evt8
  /-- XT12: dispatch key `state ‖ evt` -/
  | xt12
  /-- FF16 read by `ClassifyAnswer` -/
  | answer
  /-- FF16 read by `ClassifyRepeat` -/
  | again
  /-- ST4: status code -/
  | st4
  deriving DecidableEq, Repr

/-- The rows of `ClassifyAnswer`, in the table's order (R109, R131). -/
inductive AnsRow where
  | level
  | compare
  | writeMemoryLocation
  | queryShortAddr
  | verifyShortAddr
  | initialise
  | randomise
  | withdraw
  | searchaddrh
  | searchaddrm
  | searchaddrl
  | programShortAddr
  | enableDeviceType
  | dtr
  | dtr1
  | dtr2
  | queryStatus
  | versionMinlevel
  | contentDtr1Dtr2
  | actualLevelFadeRate
  | sceneLevelReadMemory
  | gearTypeExtVersion
  | gearPresentMissingShort
  | powerFailure
  | other
  deriving DecidableEq, Repr

/-- The rows of `ClassifyRepeat`, in the table's order (R109, R139). -/
inductive RptRow where
  | initialise
  | randomise
  | resetBroadcast
  | resetIndividual
  | powerBroadcast
  | powerIndividual
  | other
  deriving DecidableEq, Repr

/-- The operations: one constructor per row of spec/opcode_table.json.  A byte of the frame that a classifier
row fixes is no operand of its constructor. -/
inductive Instr where
  /-- `MSGENQ`: "message enqueued" dispatched into CTL (R232, R234) -/
  | msgenq
  /-- `XACTDONE`: "transaction done" dispatched into CTL (R235, R236) -/
  | xactdone
  /-- `START`: "start" dispatched into XMT (R177, R197) -/
  | start
  /-- `TIMEOUT`: "timer-timeout" dispatched into XMT (R183, R187, R192, R194, R196, R197) -/
  | timeout
  /-- `MANXMTDONE`: "transmit-done" dispatched into XMT (R181, R197) -/
  | manxmtdone
  /-- `MANRCVDONE`: "receive-done" dispatched into XMT (R185, R190, R197) -/
  | manrcvdone
  /-- `MANRCVEROR`: "receive-error" dispatched into XMT (R182, R186, R191, R197) -/
  | manrcveror
  /-- `EDGESEEN`: "edge-seen" dispatched into XMT (R189, R197) -/
  | edgeseen
  /-- `MONTICK`: the monitor tick with the sample `GetBusState()` returns (R161) -/
  | montick (sample : Bool)
  /-- `TRANSMITMESSAGE`: the host call `TransmitMessage` (R231) -/
  | transmitmessage (addr : Byte) (data : Byte) (cb : Option CbT) (opt : OptT)
  /-- `GETSTATUSDESC`: the host call `GetStatusDescription` (R250) -/
  | getstatusdesc (status : Byte)
  /-- `XMT.Idle.START`: dispatch key `0x020` (R177) -/
  | xmtIdleStart
  /-- `XMT.WaitXmtDone.MANXMTDONE`: dispatch key `0x122` (R181) -/
  | xmtWaitXmtDoneManxmtdone
  /-- `XMT.WaitXmtDone.MANRCVEROR`: dispatch key `0x124` (R182) -/
  | xmtWaitXmtDoneManrcveror
  /-- `XMT.WaitXmtDone.TIMEOUT`: dispatch key `0x121` (R183) -/
  | xmtWaitXmtDoneTimeout
  /-- `XMT.WaitXmtEcho.MANRCVDONE`: dispatch key `0x223` (R185) -/
  | xmtWaitXmtEchoManrcvdone
  /-- `XMT.WaitXmtEcho.MANRCVEROR`: dispatch key `0x224` (R186) -/
  | xmtWaitXmtEchoManrcveror
  /-- `XMT.WaitXmtEcho.TIMEOUT`: dispatch key `0x221` (R187) -/
  | xmtWaitXmtEchoTimeout
  /-- `XMT.WaitRcvDone.EDGESEEN`: dispatch key `0x325` (R189) -/
  | xmtWaitRcvDoneEdgeseen
  /-- `XMT.WaitRcvDone.MANRCVDONE`: dispatch key `0x323` (R190) -/
  | xmtWaitRcvDoneManrcvdone
  /-- `XMT.WaitRcvDone.MANRCVEROR`: dispatch key `0x324` (R191) -/
  | xmtWaitRcvDoneManrcveror
  /-- `XMT.WaitRcvDone.TIMEOUT`: dispatch key `0x321` (R192) -/
  | xmtWaitRcvDoneTimeout
  /-- `XMT.WaitFrameTime.TIMEOUT`: dispatch key `0x421` (R194) -/
  | xmtWaitFrameTimeTimeout
  /-- `XMT.WaitBackFrameTime.TIMEOUT`: dispatch key `0x521` (R196) -/
  | xmtWaitBackFrameTimeTimeout
  /-- `CTL.Idle.MSGENQ`: dispatch key `0x010` (R232) -/
  | ctlIdleMsgenq
  /-- `CTL.Wait.MSGENQ`: dispatch key `0x110` (R234) -/
  | ctlWaitMsgenq
  /-- `CTL.Wait.XACTDONE`: dispatch key `0x111` (R235) -/
  | ctlWaitXactdone
  /-- `XMT.default`: a dispatch key with no row of its own (R197) -/
  | xmtDefault (st : XmtState) (ev : XmtEvt)
  /-- `CTL.default`: a dispatch key with no row of its own (R236) -/
  | ctlDefault (st : CtlState) (ev : CtlEvt)
  /-- `ANS.LEVEL`: R138 row 1 of ClassifyAnswer: addr[0] = 0 (raw level addressing) -/
  | ansLevel (addr : Byte) (data : Byte)
  /-- `ANS.SPC_MAYBE.COMPARE`: R132 row 2 of ClassifyAnswer: addr = OPC.SPC_COMPARE and data = 0 -/
  | ansSpcMaybeCompare
  /-- `ANS.SPC_MAYBE.WRITE_MEMORY_LOCATION`: R132 row 3 of ClassifyAnswer: addr = OPC.SPC_WRITE_MEMORY_LOCATION, any data -/
  | ansSpcMaybeWriteMemoryLocation (data : Byte)
  /-- `ANS.SPC_REQUIRED.QUERY_SHORT_ADDR`: R133 row 4 of ClassifyAnswer: addr = OPC.SPC_QUERY_SHORT_ADDR and data = 0 -/
  | ansSpcRequiredQueryShortAddr
  /-- `ANS.SPC_REQUIRED.VERIFY_SHORT_ADDR`: R133 row 5 of ClassifyAnswer: addr = OPC.SPC_VERIFY_SHORT_ADDR, any data -/
  | ansSpcRequiredVerifyShortAddr (data : Byte)
  /-- `ANS.SPC_NONE.INITIALISE`: R134 row 6 of ClassifyAnswer: addr = OPC.SPC_INITIALISE, any data -/
  | ansSpcNoneInitialise (data : Byte)
  /-- `ANS.SPC_NONE.RANDOMISE`: R134 row 7 of ClassifyAnswer: addr = OPC.SPC_RANDOMISE, any data -/
  | ansSpcNoneRandomise (data : Byte)
  /-- `ANS.SPC_NONE.WITHDRAW`: R134 row 8 of ClassifyAnswer: addr = OPC.SPC_WITHDRAW, any data -/
  | ansSpcNoneWithdraw (data : Byte)
  /-- `ANS.SPC_NONE.SEARCHADDRH`: R134 row 9 of ClassifyAnswer: addr = OPC.SPC_SEARCHADDRH, any data -/
  | ansSpcNoneSearchaddrh (data : Byte)
  /-- `ANS.SPC_NONE.SEARCHADDRM`: R134 row 10 of ClassifyAnswer: addr = OPC.SPC_SEARCHADDRM, any data -/
  | ansSpcNoneSearchaddrm (data : Byte)
  /-- `ANS.SPC_NONE.SEARCHADDRL`: R134 row 11 of ClassifyAnswer: addr = OPC.SPC_SEARCHADDRL, any data -/
  | ansSpcNoneSearchaddrl (data : Byte)
  /-- `ANS.SPC_NONE.PROGRAM_SHORT_ADDR`: R134 row 12 of ClassifyAnswer: addr = OPC.SPC_PROGRAM_SHORT_ADDR, any data -/
  | ansSpcNoneProgramShortAddr (data : Byte)
  /-- `ANS.SPC_NONE.ENABLE_DEVICE_TYPE`: R134 row 13 of ClassifyAnswer: addr = OPC.SPC_ENABLE_DEVICE_TYPE, any data -/
  | ansSpcNoneEnableDeviceType (data : Byte)
  /-- `ANS.SPC_NONE.DTR`: R134 row 14 of ClassifyAnswer: addr = OPC.SPC_DTR, any data -/
  | ansSpcNoneDtr (data : Byte)
  /-- `ANS.SPC_NONE.DTR1`: R134 row 15 of ClassifyAnswer: addr = OPC.SPC_DTR1, any data -/
  | ansSpcNoneDtr1 (data : Byte)
  /-- `ANS.SPC_NONE.DTR2`: R134 row 16 of ClassifyAnswer: addr = OPC.SPC_DTR2, any data -/
  | ansSpcNoneDtr2 (data : Byte)
  /-- `ANS.Q_REQUIRED.QUERY_STATUS`: R135 row 17 of ClassifyAnswer: addr[0] = 1, no earlier row matched, data in data_range -/
  | ansQRequiredQueryStatus (addr : Byte)
  /-- `ANS.Q_REQUIRED.VERSION_MINLEVEL`: R135 row 18 of ClassifyAnswer: addr[0] = 1, no earlier row matched, data in data_range -/
  | ansQRequiredVersionMinlevel (addr : Byte) (data : Byte)
  /-- `ANS.Q_REQUIRED.CONTENT_DTR1_DTR2`: R135 row 19 of ClassifyAnswer: addr[0] = 1, no earlier row matched, data in data_range -/
  | ansQRequiredContentDtr1Dtr2 (addr : Byte) (data : Byte)
  /-- `ANS.Q_REQUIRED.ACTUAL_LEVEL_FADE_RATE`: R135 row 20 of ClassifyAnswer: addr[0] = 1, no earlier row matched, data in data_range -/
  | ansQRequiredActualLevelFadeRate (addr : Byte) (data : Byte)
  /-- `ANS.Q_REQUIRED.SCENE_LEVEL_READ_MEMORY`: R135 row 21 of ClassifyAnswer: addr[0] = 1, no earlier row matched, data in data_range -/
  | ansQRequiredSceneLevelReadMemory (addr : Byte) (data : Byte)
  /-- `ANS.Q_REQUIRED.GEAR_TYPE_EXT_VERSION`: R135 row 22 of ClassifyAnswer: addr[0] = 1, no earlier row matched, data in data_range -/
  | ansQRequiredGearTypeExtVersion (addr : Byte) (data : Byte)
  /-- `ANS.Q_MAYBE.GEAR_PRESENT_MISSING_SHORT`: R136 row 23 of ClassifyAnswer: addr[0] = 1, no earlier row matched, data in data_range -/
  | ansQMaybeGearPresentMissingShort (addr : Byte) (data : Byte)
  /-- `ANS.Q_MAYBE.POWER_FAILURE`: R136 row 24 of ClassifyAnswer: addr[0] = 1, no earlier row matched, data in data_range -/
  | ansQMaybePowerFailure (addr : Byte)
  /-- `ANS.DEFAULT`: R137 row 25 of ClassifyAnswer: addr[0] = 1 and no earlier ANS row matched -/
  | ansDefault (addr : Byte) (data : Byte)
  /-- `RPT.INITIALISE`: R140 row 1 of ClassifyRepeat: addr = OPC.SPC_INITIALISE, any data -/
  | rptInitialise (data : Byte)
  /-- `RPT.RANDOMISE`: R141 row 2 of ClassifyRepeat: addr = OPC.SPC_RANDOMISE and data = 0 -/
  | rptRandomise
  /-- `RPT.RANGE.RESET_ENABLE_WRITE_MEMORY.BROADCAST`: R142 row 3 of ClassifyRepeat: addr = 0xFF (broadcast-command address) and data in data_range -/
  | rptRangeResetEnableWriteMemoryBroadcast (data : Byte)
  /-- `RPT.RANGE.RESET_ENABLE_WRITE_MEMORY.INDIVIDUAL`: R142 row 4 of ClassifyRepeat: addr[7] = 0 and addr[0] = 1 (individually addressed command) and data in data_range -/
  | rptRangeResetEnableWriteMemoryIndividual (addr : Byte) (data : Byte)
  /-- `RPT.RANGE.REFSYSPOWER_SELECT_DIM_CURVE.BROADCAST`: R142 row 5 of ClassifyRepeat: addr = 0xFF (broadcast-command address) and data in data_range -/
  | rptRangeRefsyspowerSelectDimCurveBroadcast (data : Byte)
  /-- `RPT.RANGE.REFSYSPOWER_SELECT_DIM_CURVE.INDIVIDUAL`: R142 row 6 of ClassifyRepeat: addr[7] = 0 and addr[0] = 1 (individually addressed command) and data in data_range -/
  | rptRangeRefsyspowerSelectDimCurveIndividual (addr : Byte) (data : Byte)
  /-- `RPT.DEFAULT`: R143 row 7 of ClassifyRepeat: no earlier RPT row matched -/
  | rptDefault (addr : Byte) (data : Byte)
  /-- `ST_OK`: status code 0x0 (R104, R251) -/
  | stOk
  /-- `ST_RCVOK`: status code 0x1 (R104, R251) -/
  | stRcvOk
  /-- `ST_RCVERR`: status code 0x2 (R104, R251) -/
  | stRcvErr
  /-- `ST_XMTTIMEOUT`: status code 0x3 (R104, R251) -/
  | stXmtTimeout
  /-- `ST_BUSERR`: status code 0x4 (R104, R251) -/
  | stBusErr
  /-- `ST_ECHOERR`: status code 0x5 (R104, R251) -/
  | stEchoErr
  /-- `ST_RCVTIMEOUT`: status code 0x6 (R104, R251) -/
  | stRcvTimeout
  /-- `ST_BUSCOL`: status code 0x7 (R104, R251) -/
  | stBusCol
  /-- `ST_ILLOP`: status code 0x8 (R104, R251) -/
  | stIllOp
  /-- `ST_BUSMONBAD`: status code 0x9 (R104, R251) -/
  | stBusMonBad
  deriving DecidableEq, Repr

/-- The lines of a stimulus script (R107) and its pseudo-operations (R108).  `TX`, `TICK` and `DESC` are
operations of the opcode table and stand in a script by their code (`Line.op`); so does a direct call of an entry
point or of a classifier function. -/
inductive Line where
  /-- an operation given by its format and its bytes -/
  | op (format : Format) (bytes : List Byte)
  /-- `DISPATCH CTL` -/
  | dispatchCtl
  /-- `DISPATCH XMT` -/
  | dispatchXmt
  /-- `XMTDONE` -/
  | xmtDone
  /-- `RCVDONE b0 [b1]` -/
  | rcvDone (bytes : List Byte)
  /-- `RCVERR` -/
  | rcvErr
  /-- `EDGE` -/
  | edge
  /-- `EXPIRE` -/
  | expire
  /-- `DEBUG on` / `DEBUG off` -/
  | debug (on : Bool)
  /-- `RUN` -/
  | run
  /-- `ECHO_OK` -/
  | echoOk
  /-- `ECHO_BAD b0 b1` -/
  | echoBad (b0 b1 : Byte)
  /-- `RESPOND v` -/
  | respond (v : Byte)
  /-- `WAITOUT` -/
  | waitOut
  /-- `BAD n` -/
  | bad (n : Nat)
  /-- `GOOD n` -/
  | good (n : Nat)
  deriving DecidableEq, Repr

end Sys2Proof
end

