-- ==== Sys2Proof/Machine/Operands.lean ====
section
/-! DEFINITION. The operand forms: the parts of a frame byte, the addressing predicates (R90 to R92), and which frame,
and which classifier row, a frame operation stands for. -/

namespace Sys2Proof.Machine

/-- `isCmd`: `addr[0] = 1` (R92). -/
def isCmd (addr : Byte) : Bool := addr.getLsbD 0

/-- `isIndividual`: `addr[7] = 0` (R92). -/
def isIndividual (addr : Byte) : Bool := !addr.getLsbD 7

/-- `isGroupOrBroadcast`: `addr[7] = 1` (R92). -/
def isGroupOrBroadcast (addr : Byte) : Bool := addr.getLsbD 7

/-- `isBroadcastCmd`: `addr = 0xFF` (R92). -/
def isBroadcastCmd (addr : Byte) : Bool := addr == 0xFF#8

/-- The inclusive unsigned range test `lo <= b <= hi` (R96). -/
def inRange (lo hi b : Byte) : Bool := decide (lo ≤ b) && decide (b ≤ hi)

/-- The form of an address byte (R91).  No rule of the block reads it; it is the table of R91. -/
def addrForm (a : Byte) : AddrForm :=
  if a.getLsbD 7 = false then .short (a.extractLsb' 1 6)
  else if a.extractLsb' 5 3 = 0b100#3 then .group (a.extractLsb' 1 4)
  else if a.extractLsb' 1 7 = 0b1111111#7 then .broadcast
  else if a.getLsbD 0 = true ∧ (a.extractLsb' 5 3 = 0b101#3 ∨ a.extractLsb' 5 3 = 0b110#3) then
    .special (a.extractLsb' 1 4)
  else .reserved

/-- The forward frame as the 16-bit notation `addr ‖ data` (R90). -/
def frameWord (addr data : Byte) : BitVec 16 := addr ++ data

/-- The row of `ClassifyAnswer` an operation names, if it names one. -/
def answerRowOf : Instr → Option AnsRow
  | .ansLevel _ _ => some .level
  | .ansSpcMaybeCompare => some .compare
  | .ansSpcMaybeWriteMemoryLocation _ => some .writeMemoryLocation
  | .ansSpcRequiredQueryShortAddr => some .queryShortAddr
  | .ansSpcRequiredVerifyShortAddr _ => some .verifyShortAddr
  | .ansSpcNoneInitialise _ => some .initialise
  | .ansSpcNoneRandomise _ => some .randomise
  | .ansSpcNoneWithdraw _ => some .withdraw
  | .ansSpcNoneSearchaddrh _ => some .searchaddrh
  | .ansSpcNoneSearchaddrm _ => some .searchaddrm
  | .ansSpcNoneSearchaddrl _ => some .searchaddrl
  | .ansSpcNoneProgramShortAddr _ => some .programShortAddr
  | .ansSpcNoneEnableDeviceType _ => some .enableDeviceType
  | .ansSpcNoneDtr _ => some .dtr
  | .ansSpcNoneDtr1 _ => some .dtr1
  | .ansSpcNoneDtr2 _ => some .dtr2
  | .ansQRequiredQueryStatus _ => some .queryStatus
  | .ansQRequiredVersionMinlevel _ _ => some .versionMinlevel
  | .ansQRequiredContentDtr1Dtr2 _ _ => some .contentDtr1Dtr2
  | .ansQRequiredActualLevelFadeRate _ _ => some .actualLevelFadeRate
  | .ansQRequiredSceneLevelReadMemory _ _ => some .sceneLevelReadMemory
  | .ansQRequiredGearTypeExtVersion _ _ => some .gearTypeExtVersion
  | .ansQMaybeGearPresentMissingShort _ _ => some .gearPresentMissingShort
  | .ansQMaybePowerFailure _ => some .powerFailure
  | .ansDefault _ _ => some .other
  | .msgenq => none
  | .xactdone => none
  | .start => none
  | .timeout => none
  | .manxmtdone => none
  | .manrcvdone => none
  | .manrcveror => none
  | .edgeseen => none
  | .montick _ => none
  | .transmitmessage _ _ _ _ => none
  | .getstatusdesc _ => none
  | .xmtIdleStart => none
  | .xmtWaitXmtDoneManxmtdone => none
  | .xmtWaitXmtDoneManrcveror => none
  | .xmtWaitXmtDoneTimeout => none
  | .xmtWaitXmtEchoManrcvdone => none
  | .xmtWaitXmtEchoManrcveror => none
  | .xmtWaitXmtEchoTimeout => none
  | .xmtWaitRcvDoneEdgeseen => none
  | .xmtWaitRcvDoneManrcvdone => none
  | .xmtWaitRcvDoneManrcveror => none
  | .xmtWaitRcvDoneTimeout => none
  | .xmtWaitFrameTimeTimeout => none
  | .xmtWaitBackFrameTimeTimeout => none
  | .ctlIdleMsgenq => none
  | .ctlWaitMsgenq => none
  | .ctlWaitXactdone => none
  | .xmtDefault _ _ => none
  | .ctlDefault _ _ => none
  | .rptInitialise _ => none
  | .rptRandomise => none
  | .rptRangeResetEnableWriteMemoryBroadcast _ => none
  | .rptRangeResetEnableWriteMemoryIndividual _ _ => none
  | .rptRangeRefsyspowerSelectDimCurveBroadcast _ => none
  | .rptRangeRefsyspowerSelectDimCurveIndividual _ _ => none
  | .rptDefault _ _ => none
  | .stOk => none
  | .stRcvOk => none
  | .stRcvErr => none
  | .stXmtTimeout => none
  | .stBusErr => none
  | .stEchoErr => none
  | .stRcvTimeout => none
  | .stBusCol => none
  | .stIllOp => none
  | .stBusMonBad => none

/-- The row of `ClassifyRepeat` an operation names, if it names one. -/
def repeatRowOf : Instr → Option RptRow
  | .rptInitialise _ => some .initialise
  | .rptRandomise => some .randomise
  | .rptRangeResetEnableWriteMemoryBroadcast _ => some .resetBroadcast
  | .rptRangeResetEnableWriteMemoryIndividual _ _ => some .resetIndividual
  | .rptRangeRefsyspowerSelectDimCurveBroadcast _ => some .powerBroadcast
  | .rptRangeRefsyspowerSelectDimCurveIndividual _ _ => some .powerIndividual
  | .rptDefault _ _ => some .other
  | .msgenq => none
  | .xactdone => none
  | .start => none
  | .timeout => none
  | .manxmtdone => none
  | .manrcvdone => none
  | .manrcveror => none
  | .edgeseen => none
  | .montick _ => none
  | .transmitmessage _ _ _ _ => none
  | .getstatusdesc _ => none
  | .xmtIdleStart => none
  | .xmtWaitXmtDoneManxmtdone => none
  | .xmtWaitXmtDoneManrcveror => none
  | .xmtWaitXmtDoneTimeout => none
  | .xmtWaitXmtEchoManrcvdone => none
  | .xmtWaitXmtEchoManrcveror => none
  | .xmtWaitXmtEchoTimeout => none
  | .xmtWaitRcvDoneEdgeseen => none
  | .xmtWaitRcvDoneManrcvdone => none
  | .xmtWaitRcvDoneManrcveror => none
  | .xmtWaitRcvDoneTimeout => none
  | .xmtWaitFrameTimeTimeout => none
  | .xmtWaitBackFrameTimeTimeout => none
  | .ctlIdleMsgenq => none
  | .ctlWaitMsgenq => none
  | .ctlWaitXactdone => none
  | .xmtDefault _ _ => none
  | .ctlDefault _ _ => none
  | .ansLevel _ _ => none
  | .ansSpcMaybeCompare => none
  | .ansSpcMaybeWriteMemoryLocation _ => none
  | .ansSpcRequiredQueryShortAddr => none
  | .ansSpcRequiredVerifyShortAddr _ => none
  | .ansSpcNoneInitialise _ => none
  | .ansSpcNoneRandomise _ => none
  | .ansSpcNoneWithdraw _ => none
  | .ansSpcNoneSearchaddrh _ => none
  | .ansSpcNoneSearchaddrm _ => none
  | .ansSpcNoneSearchaddrl _ => none
  | .ansSpcNoneProgramShortAddr _ => none
  | .ansSpcNoneEnableDeviceType _ => none
  | .ansSpcNoneDtr _ => none
  | .ansSpcNoneDtr1 _ => none
  | .ansSpcNoneDtr2 _ => none
  | .ansQRequiredQueryStatus _ => none
  | .ansQRequiredVersionMinlevel _ _ => none
  | .ansQRequiredContentDtr1Dtr2 _ _ => none
  | .ansQRequiredActualLevelFadeRate _ _ => none
  | .ansQRequiredSceneLevelReadMemory _ _ => none
  | .ansQRequiredGearTypeExtVersion _ _ => none
  | .ansQMaybeGearPresentMissingShort _ _ => none
  | .ansQMaybePowerFailure _ => none
  | .ansDefault _ _ => none
  | .stOk => none
  | .stRcvOk => none
  | .stRcvErr => none
  | .stXmtTimeout => none
  | .stBusErr => none
  | .stEchoErr => none
  | .stRcvTimeout => none
  | .stBusCol => none
  | .stIllOp => none
  | .stBusMonBad => none

/-- The frame (`addr`, `data`) a classifier operation is about: its operands, and the constants its row fixes
(R98, R109). -/
def frameOf (o : Opc) : Instr → Byte × Byte
  | .ansLevel addr data => (addr, data)
  | .ansSpcMaybeCompare => (o.spcCompare, 0)
  | .ansSpcMaybeWriteMemoryLocation data => (o.spcWriteMemoryLocation, data)
  | .ansSpcRequiredQueryShortAddr => (o.spcQueryShortAddr, 0)
  | .ansSpcRequiredVerifyShortAddr data => (o.spcVerifyShortAddr, data)
  | .ansSpcNoneInitialise data => (o.spcInitialise, data)
  | .ansSpcNoneRandomise data => (o.spcRandomise, data)
  | .ansSpcNoneWithdraw data => (o.spcWithdraw, data)
  | .ansSpcNoneSearchaddrh data => (o.spcSearchaddrh, data)
  | .ansSpcNoneSearchaddrm data => (o.spcSearchaddrm, data)
  | .ansSpcNoneSearchaddrl data => (o.spcSearchaddrl, data)
  | .ansSpcNoneProgramShortAddr data => (o.spcProgramShortAddr, data)
  | .ansSpcNoneEnableDeviceType data => (o.spcEnableDeviceType, data)
  | .ansSpcNoneDtr data => (o.spcDtr, data)
  | .ansSpcNoneDtr1 data => (o.spcDtr1, data)
  | .ansSpcNoneDtr2 data => (o.spcDtr2, data)
  | .ansQRequiredQueryStatus addr => (addr, o.cmdQueryStatus)
  | .ansQRequiredVersionMinlevel addr data => (addr, data)
  | .ansQRequiredContentDtr1Dtr2 addr data => (addr, data)
  | .ansQRequiredActualLevelFadeRate addr data => (addr, data)
  | .ansQRequiredSceneLevelReadMemory addr data => (addr, data)
  | .ansQRequiredGearTypeExtVersion addr data => (addr, data)
  | .ansQMaybeGearPresentMissingShort addr data => (addr, data)
  | .ansQMaybePowerFailure addr => (addr, o.cmdQueryPowerFailure)
  | .ansDefault addr data => (addr, data)
  | .rptInitialise data => (o.spcInitialise, data)
  | .rptRandomise => (o.spcRandomise, 0)
  | .rptRangeResetEnableWriteMemoryBroadcast data => (0xFF, data)
  | .rptRangeResetEnableWriteMemoryIndividual addr data => (addr, data)
  | .rptRangeRefsyspowerSelectDimCurveBroadcast data => (0xFF, data)
  | .rptRangeRefsyspowerSelectDimCurveIndividual addr data => (addr, data)
  | .rptDefault addr data => (addr, data)
  | .msgenq => (0, 0)
  | .xactdone => (0, 0)
  | .start => (0, 0)
  | .timeout => (0, 0)
  | .manxmtdone => (0, 0)
  | .manrcvdone => (0, 0)
  | .manrcveror => (0, 0)
  | .edgeseen => (0, 0)
  | .montick _ => (0, 0)
  | .transmitmessage _ _ _ _ => (0, 0)
  | .getstatusdesc _ => (0, 0)
  | .xmtIdleStart => (0, 0)
  | .xmtWaitXmtDoneManxmtdone => (0, 0)
  | .xmtWaitXmtDoneManrcveror => (0, 0)
  | .xmtWaitXmtDoneTimeout => (0, 0)
  | .xmtWaitXmtEchoManrcvdone => (0, 0)
  | .xmtWaitXmtEchoManrcveror => (0, 0)
  | .xmtWaitXmtEchoTimeout => (0, 0)
  | .xmtWaitRcvDoneEdgeseen => (0, 0)
  | .xmtWaitRcvDoneManrcvdone => (0, 0)
  | .xmtWaitRcvDoneManrcveror => (0, 0)
  | .xmtWaitRcvDoneTimeout => (0, 0)
  | .xmtWaitFrameTimeTimeout => (0, 0)
  | .xmtWaitBackFrameTimeTimeout => (0, 0)
  | .ctlIdleMsgenq => (0, 0)
  | .ctlWaitMsgenq => (0, 0)
  | .ctlWaitXactdone => (0, 0)
  | .xmtDefault _ _ => (0, 0)
  | .ctlDefault _ _ => (0, 0)
  | .stOk => (0, 0)
  | .stRcvOk => (0, 0)
  | .stRcvErr => (0, 0)
  | .stXmtTimeout => (0, 0)
  | .stBusErr => (0, 0)
  | .stEchoErr => (0, 0)
  | .stRcvTimeout => (0, 0)
  | .stBusCol => (0, 0)
  | .stIllOp => (0, 0)
  | .stBusMonBad => (0, 0)

end Sys2Proof.Machine
end

