-- ==== Sys2Proof/Machine/Params.lean ====
section
/-! DEFINITION. The values of an opaque type, and the default values of the parameters (R8, R98, R251).  Every one is a default that an audit may
replace; the rules never mention a number. -/

namespace Sys2Proof.Machine

/-- Whether a handle is a value of an opaque type. -/
def handleOfType (t : HandleType) (h : Handle) : Bool :=
  match t with
  | .any => true
  | .width n => h.length == n
  | .oneOf first others => h == first || others.contains h

/-- One value of an opaque type: what stands where the spec names none (notes/assumptions/2.md, 7.md). -/
def someHandle (t : HandleType) : Handle :=
  match t with
  | .any => []
  | .width n => List.replicate n 0
  | .oneOf first _ => first

/-- The default `OPC.*` constants (R98, all `[from general knowledge, not in source]` there). -/
def defaultOpc : Opc where
  spcDtr := 0xA3
  spcInitialise := 0xA5
  spcRandomise := 0xA7
  spcCompare := 0xA9
  spcWithdraw := 0xAB
  spcSearchaddrh := 0xB1
  spcSearchaddrm := 0xB3
  spcSearchaddrl := 0xB5
  spcProgramShortAddr := 0xB7
  spcVerifyShortAddr := 0xB9
  spcQueryShortAddr := 0xBB
  spcEnableDeviceType := 0xC1
  spcDtr1 := 0xC3
  spcDtr2 := 0xC5
  spcWriteMemoryLocation := 0xC7
  cmdReset := 0x20
  cmdEnableWriteMemory := 0x81
  cmdQueryStatus := 0x90
  cmdQueryControlGearPresent := 0x91
  cmdQueryMissingShortAddr := 0x96
  cmdQueryVersionNumber := 0x97
  cmdQueryPhysMinLevel := 0x9A
  cmdQueryPowerFailure := 0x9B
  cmdQueryContentDtr1 := 0x9C
  cmdQueryContentDtr2 := 0x9D
  cmdQueryActualLevel := 0xA0
  cmdQueryFadeRate := 0xA5
  cmdQuerySceneLevel := 0xB0
  cmdReadMemoryLocation := 0xC5
  cmdReferenceSystemPower := 0xE0
  cmdSelectDimmingCurve := 0xE3
  cmdQueryGearType := 0xED
  cmdQueryExtVersionNumber := 0xFF

/-- The default status strings (R251). -/
def defaultStrings : StatusStrings where
  ok := "XMTOK"
  rcvOk := "XMTOKRCVOK"
  rcvErr := "XMTOKRCVERR"
  xmtTimeout := "XMTTIMEOUT"
  busErr := "BUSERR"
  echoErr := "ECHOERR"
  rcvTimeout := "RCVTIMEOUT"
  busCol := "BUSCOL"
  illOp := "ILLOP"
  busMonBad := "BUSMONBAD"
  unknown := "UNKNOWN"

/-- The default parameters (R8).  `QDEPTH`, `MON_PERIOD`, `CB_T` and `OPT_T` are OPEN in the spec: 4 is the depth its
example programs use, the 1 for the period is read by no operation, and every handle is a value of the two types
(notes/assumptions/2.md, 7.md, DESIGN CHOICE).  Every contract
is in force but the echo order R280, whose breach is a worked program of the spec (notes/assumptions/11.md). -/
def defaultParams : Params where
  tEchoMs := 22
  tRcvMs := 16
  tFrameMs := 12
  tBackMs := 9
  monThreshold := 8
  monPeriodMs := 1
  frameLen := 2
  rspLen := 1
  qdepth := 4
  cbT := .any
  optT := .any
  ctlBusyEnq := .drop
  opc := defaultOpc
  strings := defaultStrings
  transmitContract := true
  receiveContract := true
  echoOrderContract := false
  timerContract := true

end Sys2Proof.Machine
end

