-- ==== Sys2Proof/Machine/Flags.lean ====
section
/-! DEFINITION. Every flag computation: the command classes (R99), the two classifier functions that give `ans` and `rpt`
(R131, R139), the rows of the opcode table that compute the same (R109), and the monitor's counter and flag (R161). -/

namespace Sys2Proof.Machine

/-! ### Command classes (R99) -/

/-- Class `SPC_MAYBE`. -/
def spcMaybe (o : Opc) (addr data : Byte) : Bool :=
  (addr == o.spcCompare && data == 0#8) || addr == o.spcWriteMemoryLocation

/-- Class `SPC_REQUIRED`. -/
def spcRequired (o : Opc) (addr data : Byte) : Bool :=
  (addr == o.spcQueryShortAddr && data == 0#8) || addr == o.spcVerifyShortAddr

/-- Class `SPC_NONE`. -/
def spcNone (o : Opc) (addr : Byte) : Bool :=
  addr == o.spcInitialise || addr == o.spcRandomise || addr == o.spcWithdraw ||
  addr == o.spcSearchaddrh || addr == o.spcSearchaddrm || addr == o.spcSearchaddrl ||
  addr == o.spcProgramShortAddr || addr == o.spcEnableDeviceType ||
  addr == o.spcDtr || addr == o.spcDtr1 || addr == o.spcDtr2

/-- Class `Q_REQUIRED`. -/
def qRequired (o : Opc) (data : Byte) : Bool :=
  data == o.cmdQueryStatus ||
  inRange o.cmdQueryVersionNumber o.cmdQueryPhysMinLevel data ||
  inRange o.cmdQueryContentDtr1 o.cmdQueryContentDtr2 data ||
  inRange o.cmdQueryActualLevel o.cmdQueryFadeRate data ||
  inRange o.cmdQuerySceneLevel o.cmdReadMemoryLocation data ||
  inRange o.cmdQueryGearType o.cmdQueryExtVersionNumber data

/-- Class `Q_MAYBE`. -/
def qMaybe (o : Opc) (data : Byte) : Bool :=
  inRange o.cmdQueryControlGearPresent o.cmdQueryMissingShortAddr data || data == o.cmdQueryPowerFailure

/-- Class `RPT_RANGE`. -/
def rptRange (o : Opc) (data : Byte) : Bool :=
  inRange o.cmdReset o.cmdEnableWriteMemory data ||
  inRange o.cmdReferenceSystemPower o.cmdSelectDimmingCurve data

/-! ### The classifier (R131, R139) -/

/-- The result of a query: `a` for an individual address or in debug mode, `ANS_ERROR` otherwise (R135, R136). -/
def queryAnswer (a : AnswerExpectation) (addr : Byte) (dbg : Bool) : AnswerExpectation :=
  if isIndividual addr then a else if dbg then a else .error

/-- `ClassifyAnswer` (R131): the first matching line wins. -/
def classifyAnswer (o : Opc) (addr data : Byte) (dbg : Bool) : AnswerExpectation :=
  if !isCmd addr then .none
  else if spcMaybe o addr data then .maybe
  else if spcRequired o addr data then .required
  else if spcNone o addr then .none
  else if qRequired o data then queryAnswer .required addr dbg
  else if qMaybe o data then queryAnswer .maybe addr dbg
  else .none

/-- `ClassifyRepeat` (R139): `(A or (B and C)) and D` for rule 3 (R142). -/
def classifyRepeat (o : Opc) (addr data : Byte) : Bool :=
  if addr == o.spcInitialise then true
  else if data == 0#8 && addr == o.spcRandomise then true
  else if (isBroadcastCmd addr || (isCmd addr && isIndividual addr)) && rptRange o data then true
  else false

/-- Is an answer expected: `ans = ANS_MAYBE or ans = ANS_REQUIRED` (R28, R185). -/
def answerExpected (a : AnswerExpectation) : Bool := a == .maybe || a == .required

/-- The debug-mode access check on a query (R285): allowed iff individual or debug. -/
def queryAllowed (addr : Byte) (dbg : Bool) : Bool := isIndividual addr || dbg

/-! ### The rows of the opcode table (R109) -/

/-- The rows of `ClassifyAnswer` in listed order. -/
def answerRows : List AnsRow :=
  [.level, .compare, .writeMemoryLocation, .queryShortAddr, .verifyShortAddr,
   .initialise, .randomise, .withdraw, .searchaddrh, .searchaddrm, .searchaddrl,
   .programShortAddr, .enableDeviceType, .dtr, .dtr1, .dtr2,
   .queryStatus, .versionMinlevel, .contentDtr1Dtr2, .actualLevelFadeRate,
   .sceneLevelReadMemory, .gearTypeExtVersion, .gearPresentMissingShort, .powerFailure, .other]

/-- The rows of `ClassifyRepeat` in listed order. -/
def repeatRows : List RptRow :=
  [.initialise, .randomise, .resetBroadcast, .resetIndividual, .powerBroadcast, .powerIndividual, .other]

/-- The condition of one row of `ClassifyAnswer`, without "no earlier row matched". -/
def answerRowMatches (o : Opc) (addr data : Byte) : AnsRow → Bool
  | .level => !isCmd addr
  | .compare => addr == o.spcCompare && data == 0#8
  | .writeMemoryLocation => addr == o.spcWriteMemoryLocation
  | .queryShortAddr => addr == o.spcQueryShortAddr && data == 0#8
  | .verifyShortAddr => addr == o.spcVerifyShortAddr
  | .initialise => addr == o.spcInitialise
  | .randomise => addr == o.spcRandomise
  | .withdraw => addr == o.spcWithdraw
  | .searchaddrh => addr == o.spcSearchaddrh
  | .searchaddrm => addr == o.spcSearchaddrm
  | .searchaddrl => addr == o.spcSearchaddrl
  | .programShortAddr => addr == o.spcProgramShortAddr
  | .enableDeviceType => addr == o.spcEnableDeviceType
  | .dtr => addr == o.spcDtr
  | .dtr1 => addr == o.spcDtr1
  | .dtr2 => addr == o.spcDtr2
  | .queryStatus => data == o.cmdQueryStatus
  | .versionMinlevel => inRange o.cmdQueryVersionNumber o.cmdQueryPhysMinLevel data
  | .contentDtr1Dtr2 => inRange o.cmdQueryContentDtr1 o.cmdQueryContentDtr2 data
  | .actualLevelFadeRate => inRange o.cmdQueryActualLevel o.cmdQueryFadeRate data
  | .sceneLevelReadMemory => inRange o.cmdQuerySceneLevel o.cmdReadMemoryLocation data
  | .gearTypeExtVersion => inRange o.cmdQueryGearType o.cmdQueryExtVersionNumber data
  | .gearPresentMissingShort => inRange o.cmdQueryControlGearPresent o.cmdQueryMissingShortAddr data
  | .powerFailure => data == o.cmdQueryPowerFailure
  | .other => true

/-- The condition of one row of `ClassifyRepeat`, without "no earlier row matched". -/
def repeatRowMatches (o : Opc) (addr data : Byte) : RptRow → Bool
  | .initialise => addr == o.spcInitialise
  | .randomise => addr == o.spcRandomise && data == 0#8
  | .resetBroadcast => isBroadcastCmd addr && inRange o.cmdReset o.cmdEnableWriteMemory data
  | .resetIndividual =>
      isIndividual addr && isCmd addr && inRange o.cmdReset o.cmdEnableWriteMemory data
  | .powerBroadcast =>
      isBroadcastCmd addr && inRange o.cmdReferenceSystemPower o.cmdSelectDimmingCurve data
  | .powerIndividual =>
      isIndividual addr && isCmd addr && inRange o.cmdReferenceSystemPower o.cmdSelectDimmingCurve data
  | .other => true

/-- The row of `ClassifyAnswer` that a frame selects: the first that matches (R109). -/
def selectAnswerRow (o : Opc) (addr data : Byte) : AnsRow :=
  (answerRows.find? (answerRowMatches o addr data)).getD .other

/-- The row of `ClassifyRepeat` that a frame selects: the first that matches (R109). -/
def selectRepeatRow (o : Opc) (addr data : Byte) : RptRow :=
  (repeatRows.find? (repeatRowMatches o addr data)).getD .other

/-- The result a row of `ClassifyAnswer` gives (R132 to R138). -/
def answerRowResult (r : AnsRow) (addr : Byte) (dbg : Bool) : AnswerExpectation :=
  match r with
  | .level => .none
  | .compare => .maybe
  | .writeMemoryLocation => .maybe
  | .queryShortAddr => .required
  | .verifyShortAddr => .required
  | .initialise => .none
  | .randomise => .none
  | .withdraw => .none
  | .searchaddrh => .none
  | .searchaddrm => .none
  | .searchaddrl => .none
  | .programShortAddr => .none
  | .enableDeviceType => .none
  | .dtr => .none
  | .dtr1 => .none
  | .dtr2 => .none
  | .queryStatus => queryAnswer .required addr dbg
  | .versionMinlevel => queryAnswer .required addr dbg
  | .contentDtr1Dtr2 => queryAnswer .required addr dbg
  | .actualLevelFadeRate => queryAnswer .required addr dbg
  | .sceneLevelReadMemory => queryAnswer .required addr dbg
  | .gearTypeExtVersion => queryAnswer .required addr dbg
  | .gearPresentMissingShort => queryAnswer .maybe addr dbg
  | .powerFailure => queryAnswer .maybe addr dbg
  | .other => .none

/-- The result a row of `ClassifyRepeat` gives (R140 to R143). -/
def repeatRowResult : RptRow → Bool
  | .initialise => true
  | .randomise => true
  | .resetBroadcast => true
  | .resetIndividual => true
  | .powerBroadcast => true
  | .powerIndividual => true
  | .other => false

/-! ### Which dispatch keys have a row (R101, R197, R236) -/

/-- The (`xmt_state`, event) pairs with a transition rule. -/
def xmtHasRow : XmtState → XmtEvt → Bool
  | .idle, .start => true
  | .waitXmtDone, .manxmtdone => true
  | .waitXmtDone, .manrcveror => true
  | .waitXmtDone, .timeout => true
  | .waitXmtEcho, .manrcvdone => true
  | .waitXmtEcho, .manrcveror => true
  | .waitXmtEcho, .timeout => true
  | .waitRcvDone, .edgeseen => true
  | .waitRcvDone, .manrcvdone => true
  | .waitRcvDone, .manrcveror => true
  | .waitRcvDone, .timeout => true
  | .waitFrameTime, .timeout => true
  | .waitBackFrameTime, .timeout => true
  | _, _ => false

/-- The (`ctl_state`, event) pairs with a transition rule. -/
def ctlHasRow : CtlState → CtlEvt → Bool
  | .idle, .msgenq => true
  | .wait, .msgenq => true
  | .wait, .xactdone => true
  | .idle, .xactdone => false

/-! ### The monitor (R161) -/

/-- `mon_cnt` after a sample: a bad sample counts up and saturates at the threshold, a good one clears. -/
def monCntNext (threshold cnt : BitVec 4) (sample : Bool) : BitVec 4 :=
  if sample then (if cnt < threshold then cnt + 1#4 else cnt) else 0#4

/-- `mon_bad` after a sample, from the counter's new value. -/
def monBadNext (threshold cntNext : BitVec 4) (bad sample : Bool) : Bool :=
  if sample then (if cntNext = threshold ∧ bad = false then true else bad) else false

/-! ### The status strings (R250, R251) -/

/-- The description of a status. -/
def statusString (t : StatusStrings) : ResultStatus → String
  | .ok => t.ok
  | .rcvOk => t.rcvOk
  | .rcvErr => t.rcvErr
  | .xmtTimeout => t.xmtTimeout
  | .busErr => t.busErr
  | .echoErr => t.echoErr
  | .rcvTimeout => t.rcvTimeout
  | .busCol => t.busCol
  | .illOp => t.illOp
  | .busMonBad => t.busMonBad

/-- The status with a given code, 0 to 9 (R104); none for 10 and above. -/
def statusOfCode (n : Nat) : Option ResultStatus :=
  match n with
  | 0 => some .ok
  | 1 => some .rcvOk
  | 2 => some .rcvErr
  | 3 => some .xmtTimeout
  | 4 => some .busErr
  | 5 => some .echoErr
  | 6 => some .rcvTimeout
  | 7 => some .busCol
  | 8 => some .illOp
  | 9 => some .busMonBad
  | _ => none

/-- `GetStatusDescription` (R250): the string, or the sentinel for a code out of range. -/
def describeStatus (t : StatusStrings) (n : Nat) : String :=
  match statusOfCode n with
  | some st => statusString t st
  | none => t.unknown

end Sys2Proof.Machine
end

