-- ==== Sys2Proof/WellFormed.lean ====
section
/-! DEFINITION. Which terms of `Instr` stand for an operation of the table, one check per kind of row. -/

namespace Sys2Proof

/-- A row of `ClassifyAnswer` stands for a frame only when that frame selects it: its own condition holds and
no earlier row's does (R109, R131). -/
def answerRowOk (o : Opc) (i : Instr) : Bool :=
  match Machine.answerRowOf i with
  | some r => Machine.selectAnswerRow o (Machine.frameOf o i).1 (Machine.frameOf o i).2 == r
  | none => true

/-- The same for a row of `ClassifyRepeat` (R109, R139). -/
def repeatRowOk (o : Opc) (i : Instr) : Bool :=
  match Machine.repeatRowOf i with
  | some r => Machine.selectRepeatRow o (Machine.frameOf o i).1 (Machine.frameOf o i).2 == r
  | none => true

/-- The default row of XMT stands only for pairs without a row of their own (R101, R197). -/
def xmtDefaultOk : Instr → Bool
  | .xmtDefault st ev => !Machine.xmtHasRow st ev
  | _ => true

/-- The default row of CTL stands only for pairs without a row of their own (R101, R236). -/
def ctlDefaultOk : Instr → Bool
  | .ctlDefault st ev => !Machine.ctlHasRow st ev
  | _ => true

/-- Well-formed under the opcode constants `o`. -/
def wellFormed (o : Opc) (i : Instr) : Bool :=
  answerRowOk o i && repeatRowOk o i && xmtDefaultOk i && ctlDefaultOk i

end Sys2Proof
end

