-- ==== Sys2Proof/Decode.lean ====
section
/-! DEFINITION. The decoder, total on any bytes and refusing by name, and after it the encoder, both from the encodings of
30_encoding.md (R90, R98 to R104).  How a 12-bit key, a 4-bit status code and the operands of a call lie
in bytes is the model's choice (notes/assumptions/6.md). -/

namespace Sys2Proof

/-- Why a code is not an operation. -/
inductive DecodeError where
  /-- fewer bytes than the format needs -/
  | truncated
  /-- an EVT8 code that is not one of the eleven of R100 (R105(b)) -/
  | unknownEvent (code : Byte)
  /-- a dispatch key whose state or event field names none (R101, R105(e)) -/
  | reservedKey (state evt : Byte)
  /-- an ST4 code of 10 or above (R104, R105(d)) -/
  | reservedStatus (code : Byte)
  /-- an operand byte of a call that is no value of its operand -/
  | badOperand (value : Byte)
  deriving DecidableEq, Repr

/-- What the decoder answers: the operation and the bytes after it, or a refusal by name. -/
inductive Decoded where
  | ok (i : Instr) (rest : List Byte)
  | error (e : DecodeError)
  deriving DecidableEq, Repr

/-! ### Codes (R100 to R104) -/

/-- The code of `ctl_state` (R102). -/
def ctlStateCode : CtlState → Byte
  | .idle => 0
  | .wait => 1

/-- The code of `xmt_state` (R102). -/
def xmtStateCode : XmtState → Byte
  | .idle => 0
  | .waitXmtDone => 1
  | .waitXmtEcho => 2
  | .waitRcvDone => 3
  | .waitFrameTime => 4
  | .waitBackFrameTime => 5

/-- The EVT8 code of a control event (R100). -/
def ctlEvtCode : CtlEvt → Byte
  | .msgenq => 0x10
  | .xactdone => 0x11

/-- The EVT8 code of a transmit event (R100). -/
def xmtEvtCode : XmtEvt → Byte
  | .start => 0x20
  | .timeout => 0x21
  | .manxmtdone => 0x22
  | .manrcvdone => 0x23
  | .manrcveror => 0x24
  | .edgeseen => 0x25

/-- The state with a code. -/
def ctlStateOf (c : Byte) : Option CtlState :=
  if c = 0 then some .idle else if c = 1 then some .wait else none

/-- The state with a code; 6 and 7 name none (R22). -/
def xmtStateOf (c : Byte) : Option XmtState :=
  if c = 0 then some .idle
  else if c = 1 then some .waitXmtDone
  else if c = 2 then some .waitXmtEcho
  else if c = 3 then some .waitRcvDone
  else if c = 4 then some .waitFrameTime
  else if c = 5 then some .waitBackFrameTime
  else none

/-- The control event with a code. -/
def ctlEvtOf (c : Byte) : Option CtlEvt :=
  if c = 0x10 then some .msgenq else if c = 0x11 then some .xactdone else none

/-- The transmit event with a code. -/
def xmtEvtOf (c : Byte) : Option XmtEvt :=
  if c = 0x20 then some .start
  else if c = 0x21 then some .timeout
  else if c = 0x22 then some .manxmtdone
  else if c = 0x23 then some .manrcvdone
  else if c = 0x24 then some .manrcveror
  else if c = 0x25 then some .edgeseen
  else none

/-- The code of an `AnswerExpectation` (R103, R28). -/
def answerCode : AnswerExpectation → BitVec 2
  | .none => 0
  | .maybe => 1
  | .required => 2
  | .error => 3

/-- The `AnswerExpectation` with a code (R103): every two-bit code is one. -/
def answerOfCode (c : BitVec 2) : AnswerExpectation :=
  if c = 0 then .none else if c = 1 then .maybe else if c = 2 then .required else .error

/-- The ST4 code of a status (R104); `Machine.statusOfCode` reads it back. -/
def statusCode : ResultStatus → BitVec 4
  | .ok => 0
  | .rcvOk => 1
  | .rcvErr => 2
  | .xmtTimeout => 3
  | .busErr => 4
  | .echoErr => 5
  | .rcvTimeout => 6
  | .busCol => 7
  | .illOp => 8
  | .busMonBad => 9

/-- A handle as operand bytes: each of its bytes after a 1, and a 0 that ends it. -/
def handleBytes : List Byte → List Byte
  | [] => [0]
  | b :: t => 1 :: b :: handleBytes t

/-! ### The decoder -/

/-- The operation of an EVT8 event of class 1. -/
def ctlEvtInstr : CtlEvt → Instr
  | .msgenq => .msgenq
  | .xactdone => .xactdone

/-- The operation of an EVT8 event of class 2. -/
def xmtEvtInstr : XmtEvt → Instr
  | .start => .start
  | .timeout => .timeout
  | .manxmtdone => .manxmtdone
  | .manrcvdone => .manrcvdone
  | .manrcveror => .manrcveror
  | .edgeseen => .edgeseen

/-- The sample of a monitor tick: one byte, 0 good, 1 bad. -/
def decodeTick : List Byte → Decoded
  | [] => .error .truncated
  | v :: rest =>
    if v = 0 then .ok (.montick false) rest
    else if v = 1 then .ok (.montick true) rest
    else .error (.badOperand v)

/-- The operand a call reads from its bytes, with the bytes after it. -/
abbrev Operand (α : Type) := Except DecodeError (α × List Byte)

/-- A handle. -/
def decodeHandle : List Byte → Operand (List Byte)
  | [] => .error .truncated
  | [f] => if f = 0 then .ok ([], []) else if f = 1 then .error .truncated else .error (.badOperand f)
  | f :: v :: rest =>
    if f = 0 then .ok ([], v :: rest)
    else if f = 1 then
      match decodeHandle rest with
      | .ok (h, after) => .ok (v :: h, after)
      | .error e => .error e
    else .error (.badOperand f)

/-- A callback: one byte that says whether there is one, and its handle if there is. -/
def decodeCallback : List Byte → Operand (Option CbT)
  | [] => .error .truncated
  | f :: rest =>
    if f = 0 then .ok (none, rest)
    else if f = 1 then
      match decodeHandle rest with
      | .ok (h, after) => .ok (some h, after)
      | .error e => .error e
    else .error (.badOperand f)

/-- The operands of `TransmitMessage`: `addr`, `data`, the callback, the option's handle. -/
def decodeTransmit : List Byte → Decoded
  | a :: d :: rest =>
    match decodeCallback rest with
    | .error e => .error e
    | .ok (cb, rest) =>
      match decodeHandle rest with
      | .error e => .error e
      | .ok (opt, rest) => .ok (.transmitmessage a d cb opt) rest
  | _ => .error .truncated

/-- The operand of `GetStatusDescription`: one byte. -/
def decodeDesc : List Byte → Decoded
  | [] => .error .truncated
  | n :: rest => .ok (.getstatusdesc n) rest

/-- Format EVT8 (R100). -/
def decodeEvt8 : List Byte → Decoded
  | [] => .error .truncated
  | c :: rest =>
    match ctlEvtOf c with
    | some e => .ok (ctlEvtInstr e) rest
    | none =>
      match xmtEvtOf c with
      | some e => .ok (xmtEvtInstr e) rest
      | none =>
        if c = 0x30 then decodeTick rest
        else if c = 0x40 then decodeTransmit rest
        else if c = 0x41 then decodeDesc rest
        else .error (.unknownEvent c)

/-- The row of the opcode table a CTL dispatch key names (R101, R236). -/
def ctlKeyInstr : CtlState → CtlEvt → Instr
  | .idle, .msgenq => .ctlIdleMsgenq
  | .wait, .msgenq => .ctlWaitMsgenq
  | .wait, .xactdone => .ctlWaitXactdone
  | .idle, .xactdone => .ctlDefault .idle .xactdone

/-- The row of the opcode table an XMT dispatch key names (R101, R197). -/
def xmtKeyInstr : XmtState → XmtEvt → Instr
  | .idle, .start => .xmtIdleStart
  | .waitXmtDone, .manxmtdone => .xmtWaitXmtDoneManxmtdone
  | .waitXmtDone, .manrcveror => .xmtWaitXmtDoneManrcveror
  | .waitXmtDone, .timeout => .xmtWaitXmtDoneTimeout
  | .waitXmtEcho, .manrcvdone => .xmtWaitXmtEchoManrcvdone
  | .waitXmtEcho, .manrcveror => .xmtWaitXmtEchoManrcveror
  | .waitXmtEcho, .timeout => .xmtWaitXmtEchoTimeout
  | .waitRcvDone, .edgeseen => .xmtWaitRcvDoneEdgeseen
  | .waitRcvDone, .manrcvdone => .xmtWaitRcvDoneManrcvdone
  | .waitRcvDone, .manrcveror => .xmtWaitRcvDoneManrcveror
  | .waitRcvDone, .timeout => .xmtWaitRcvDoneTimeout
  | .waitFrameTime, .timeout => .xmtWaitFrameTimeTimeout
  | .waitBackFrameTime, .timeout => .xmtWaitBackFrameTimeTimeout
  | st, ev => .xmtDefault st ev

/-- The row a valid dispatch key names; none for a key whose fields name no state or event. -/
def keyInstr (st ev : Byte) : Option Instr :=
  match ctlEvtOf ev with
  | some e =>
    match ctlStateOf st with
    | some c => some (ctlKeyInstr c e)
    | none => none
  | none =>
    match xmtEvtOf ev, xmtStateOf st with
    | some e, some x => some (xmtKeyInstr x e)
    | _, _ => none

/-- Format XT12 (R101): the state nibble in the first byte, the event code in the second.  The nibble takes the whole byte,
and 16 to 255 name no state (notes/assumptions/6.md, DESIGN CHOICE). -/
def decodeXt12 : List Byte → Decoded
  | st :: ev :: rest =>
    match keyInstr st ev with
    | some i => .ok i rest
    | none => .error (.reservedKey st ev)
  | _ => .error .truncated

/-- The operation a selected row of `ClassifyAnswer` makes of a frame. -/
def answerInstr (r : AnsRow) (addr data : Byte) : Instr :=
  match r with
  | .level => .ansLevel addr data
  | .compare => .ansSpcMaybeCompare
  | .writeMemoryLocation => .ansSpcMaybeWriteMemoryLocation data
  | .queryShortAddr => .ansSpcRequiredQueryShortAddr
  | .verifyShortAddr => .ansSpcRequiredVerifyShortAddr data
  | .initialise => .ansSpcNoneInitialise data
  | .randomise => .ansSpcNoneRandomise data
  | .withdraw => .ansSpcNoneWithdraw data
  | .searchaddrh => .ansSpcNoneSearchaddrh data
  | .searchaddrm => .ansSpcNoneSearchaddrm data
  | .searchaddrl => .ansSpcNoneSearchaddrl data
  | .programShortAddr => .ansSpcNoneProgramShortAddr data
  | .enableDeviceType => .ansSpcNoneEnableDeviceType data
  | .dtr => .ansSpcNoneDtr data
  | .dtr1 => .ansSpcNoneDtr1 data
  | .dtr2 => .ansSpcNoneDtr2 data
  | .queryStatus => .ansQRequiredQueryStatus addr
  | .versionMinlevel => .ansQRequiredVersionMinlevel addr data
  | .contentDtr1Dtr2 => .ansQRequiredContentDtr1Dtr2 addr data
  | .actualLevelFadeRate => .ansQRequiredActualLevelFadeRate addr data
  | .sceneLevelReadMemory => .ansQRequiredSceneLevelReadMemory addr data
  | .gearTypeExtVersion => .ansQRequiredGearTypeExtVersion addr data
  | .gearPresentMissingShort => .ansQMaybeGearPresentMissingShort addr data
  | .powerFailure => .ansQMaybePowerFailure addr
  | .other => .ansDefault addr data

/-- The operation a selected row of `ClassifyRepeat` makes of a frame. -/
def repeatInstr (r : RptRow) (addr data : Byte) : Instr :=
  match r with
  | .initialise => .rptInitialise data
  | .randomise => .rptRandomise
  | .resetBroadcast => .rptRangeResetEnableWriteMemoryBroadcast data
  | .resetIndividual => .rptRangeResetEnableWriteMemoryIndividual addr data
  | .powerBroadcast => .rptRangeRefsyspowerSelectDimCurveBroadcast data
  | .powerIndividual => .rptRangeRefsyspowerSelectDimCurveIndividual addr data
  | .other => .rptDefault addr data

/-- Format FF16 read by `ClassifyAnswer`: `addr` first (R62, R90), first match wins (R109).  Every frame is one. -/
def decodeAnswer (o : Opc) : List Byte → Decoded
  | a :: d :: rest => .ok (answerInstr (Machine.selectAnswerRow o a d) a d) rest
  | _ => .error .truncated

/-- Format FF16 read by `ClassifyRepeat`. -/
def decodeRepeat (o : Opc) : List Byte → Decoded
  | a :: d :: rest => .ok (repeatInstr (Machine.selectRepeatRow o a d) a d) rest
  | _ => .error .truncated

/-- The operation of a status. -/
def statusInstr : ResultStatus → Instr
  | .ok => .stOk
  | .rcvOk => .stRcvOk
  | .rcvErr => .stRcvErr
  | .xmtTimeout => .stXmtTimeout
  | .busErr => .stBusErr
  | .echoErr => .stEchoErr
  | .rcvTimeout => .stRcvTimeout
  | .busCol => .stBusCol
  | .illOp => .stIllOp
  | .busMonBad => .stBusMonBad

/-- Format ST4 (R104).  The 4-bit code takes a whole byte, and a byte of 10 or more, 16 to 255 among them, is no status
(notes/assumptions/6.md, DESIGN CHOICE). -/
def decodeSt4 : List Byte → Decoded
  | [] => .error .truncated
  | c :: rest =>
    match Machine.statusOfCode c.toNat with
    | some st => .ok (statusInstr st) rest
    | none => .error (.reservedStatus c)

/-- The decoder. -/
def decode (o : Opc) (f : Format) (bs : List Byte) : Decoded :=
  match f with
  | .evt8 => decodeEvt8 bs
  | .xt12 => decodeXt12 bs
  | .answer => decodeAnswer o bs
  | .again => decodeRepeat o bs
  | .st4 => decodeSt4 bs

/-! ### The encoder -/

/-- The format an operation is encoded in. -/
def formatOf : Instr → Format
  | .msgenq => .evt8
  | .xactdone => .evt8
  | .start => .evt8
  | .timeout => .evt8
  | .manxmtdone => .evt8
  | .manrcvdone => .evt8
  | .manrcveror => .evt8
  | .edgeseen => .evt8
  | .montick _ => .evt8
  | .transmitmessage _ _ _ _ => .evt8
  | .getstatusdesc _ => .evt8
  | .xmtIdleStart => .xt12
  | .xmtWaitXmtDoneManxmtdone => .xt12
  | .xmtWaitXmtDoneManrcveror => .xt12
  | .xmtWaitXmtDoneTimeout => .xt12
  | .xmtWaitXmtEchoManrcvdone => .xt12
  | .xmtWaitXmtEchoManrcveror => .xt12
  | .xmtWaitXmtEchoTimeout => .xt12
  | .xmtWaitRcvDoneEdgeseen => .xt12
  | .xmtWaitRcvDoneManrcvdone => .xt12
  | .xmtWaitRcvDoneManrcveror => .xt12
  | .xmtWaitRcvDoneTimeout => .xt12
  | .xmtWaitFrameTimeTimeout => .xt12
  | .xmtWaitBackFrameTimeTimeout => .xt12
  | .ctlIdleMsgenq => .xt12
  | .ctlWaitMsgenq => .xt12
  | .ctlWaitXactdone => .xt12
  | .xmtDefault _ _ => .xt12
  | .ctlDefault _ _ => .xt12
  | .ansLevel _ _ => .answer
  | .ansSpcMaybeCompare => .answer
  | .ansSpcMaybeWriteMemoryLocation _ => .answer
  | .ansSpcRequiredQueryShortAddr => .answer
  | .ansSpcRequiredVerifyShortAddr _ => .answer
  | .ansSpcNoneInitialise _ => .answer
  | .ansSpcNoneRandomise _ => .answer
  | .ansSpcNoneWithdraw _ => .answer
  | .ansSpcNoneSearchaddrh _ => .answer
  | .ansSpcNoneSearchaddrm _ => .answer
  | .ansSpcNoneSearchaddrl _ => .answer
  | .ansSpcNoneProgramShortAddr _ => .answer
  | .ansSpcNoneEnableDeviceType _ => .answer
  | .ansSpcNoneDtr _ => .answer
  | .ansSpcNoneDtr1 _ => .answer
  | .ansSpcNoneDtr2 _ => .answer
  | .ansQRequiredQueryStatus _ => .answer
  | .ansQRequiredVersionMinlevel _ _ => .answer
  | .ansQRequiredContentDtr1Dtr2 _ _ => .answer
  | .ansQRequiredActualLevelFadeRate _ _ => .answer
  | .ansQRequiredSceneLevelReadMemory _ _ => .answer
  | .ansQRequiredGearTypeExtVersion _ _ => .answer
  | .ansQMaybeGearPresentMissingShort _ _ => .answer
  | .ansQMaybePowerFailure _ => .answer
  | .ansDefault _ _ => .answer
  | .rptInitialise _ => .again
  | .rptRandomise => .again
  | .rptRangeResetEnableWriteMemoryBroadcast _ => .again
  | .rptRangeResetEnableWriteMemoryIndividual _ _ => .again
  | .rptRangeRefsyspowerSelectDimCurveBroadcast _ => .again
  | .rptRangeRefsyspowerSelectDimCurveIndividual _ _ => .again
  | .rptDefault _ _ => .again
  | .stOk => .st4
  | .stRcvOk => .st4
  | .stRcvErr => .st4
  | .stXmtTimeout => .st4
  | .stBusErr => .st4
  | .stEchoErr => .st4
  | .stRcvTimeout => .st4
  | .stBusCol => .st4
  | .stIllOp => .st4
  | .stBusMonBad => .st4

/-- A Boolean operand as a byte. -/
def boolByte (b : Bool) : Byte := if b then 1 else 0

/-- A callback operand. -/
def callbackBytes : Option CbT → List Byte
  | none => [0]
  | some c => 1 :: handleBytes c

/-- The two bytes of a classifier operation's frame, `addr` first. -/
def frameBytesOf (o : Opc) (i : Instr) : List Byte := [(Machine.frameOf o i).1, (Machine.frameOf o i).2]

/-- A status as the byte of its ST4 code: the code in the low nibble, the high nibble 0 (notes/assumptions/6.md,
DESIGN CHOICE). -/
def statusBytes (st : ResultStatus) : List Byte := [(statusCode st).setWidth 8]

/-- The encoder: the bytes of an operation in its format. -/
def encode (o : Opc) (i : Instr) : List Byte :=
  match i with
  | .msgenq => [ctlEvtCode .msgenq]
  | .xactdone => [ctlEvtCode .xactdone]
  | .start => [xmtEvtCode .start]
  | .timeout => [xmtEvtCode .timeout]
  | .manxmtdone => [xmtEvtCode .manxmtdone]
  | .manrcvdone => [xmtEvtCode .manrcvdone]
  | .manrcveror => [xmtEvtCode .manrcveror]
  | .edgeseen => [xmtEvtCode .edgeseen]
  | .montick sample => [0x30, boolByte sample]
  | .transmitmessage addr data cb opt => [0x40, addr, data] ++ callbackBytes cb ++ handleBytes opt
  | .getstatusdesc status => [0x41, status]
  | .xmtIdleStart => [xmtStateCode .idle, xmtEvtCode .start]
  | .xmtWaitXmtDoneManxmtdone => [xmtStateCode .waitXmtDone, xmtEvtCode .manxmtdone]
  | .xmtWaitXmtDoneManrcveror => [xmtStateCode .waitXmtDone, xmtEvtCode .manrcveror]
  | .xmtWaitXmtDoneTimeout => [xmtStateCode .waitXmtDone, xmtEvtCode .timeout]
  | .xmtWaitXmtEchoManrcvdone => [xmtStateCode .waitXmtEcho, xmtEvtCode .manrcvdone]
  | .xmtWaitXmtEchoManrcveror => [xmtStateCode .waitXmtEcho, xmtEvtCode .manrcveror]
  | .xmtWaitXmtEchoTimeout => [xmtStateCode .waitXmtEcho, xmtEvtCode .timeout]
  | .xmtWaitRcvDoneEdgeseen => [xmtStateCode .waitRcvDone, xmtEvtCode .edgeseen]
  | .xmtWaitRcvDoneManrcvdone => [xmtStateCode .waitRcvDone, xmtEvtCode .manrcvdone]
  | .xmtWaitRcvDoneManrcveror => [xmtStateCode .waitRcvDone, xmtEvtCode .manrcveror]
  | .xmtWaitRcvDoneTimeout => [xmtStateCode .waitRcvDone, xmtEvtCode .timeout]
  | .xmtWaitFrameTimeTimeout => [xmtStateCode .waitFrameTime, xmtEvtCode .timeout]
  | .xmtWaitBackFrameTimeTimeout => [xmtStateCode .waitBackFrameTime, xmtEvtCode .timeout]
  | .ctlIdleMsgenq => [ctlStateCode .idle, ctlEvtCode .msgenq]
  | .ctlWaitMsgenq => [ctlStateCode .wait, ctlEvtCode .msgenq]
  | .ctlWaitXactdone => [ctlStateCode .wait, ctlEvtCode .xactdone]
  | .xmtDefault st ev => [xmtStateCode st, xmtEvtCode ev]
  | .ctlDefault st ev => [ctlStateCode st, ctlEvtCode ev]
  | .ansLevel addr data => frameBytesOf o (.ansLevel addr data)
  | .ansSpcMaybeCompare => frameBytesOf o (.ansSpcMaybeCompare)
  | .ansSpcMaybeWriteMemoryLocation data => frameBytesOf o (.ansSpcMaybeWriteMemoryLocation data)
  | .ansSpcRequiredQueryShortAddr => frameBytesOf o (.ansSpcRequiredQueryShortAddr)
  | .ansSpcRequiredVerifyShortAddr data => frameBytesOf o (.ansSpcRequiredVerifyShortAddr data)
  | .ansSpcNoneInitialise data => frameBytesOf o (.ansSpcNoneInitialise data)
  | .ansSpcNoneRandomise data => frameBytesOf o (.ansSpcNoneRandomise data)
  | .ansSpcNoneWithdraw data => frameBytesOf o (.ansSpcNoneWithdraw data)
  | .ansSpcNoneSearchaddrh data => frameBytesOf o (.ansSpcNoneSearchaddrh data)
  | .ansSpcNoneSearchaddrm data => frameBytesOf o (.ansSpcNoneSearchaddrm data)
  | .ansSpcNoneSearchaddrl data => frameBytesOf o (.ansSpcNoneSearchaddrl data)
  | .ansSpcNoneProgramShortAddr data => frameBytesOf o (.ansSpcNoneProgramShortAddr data)
  | .ansSpcNoneEnableDeviceType data => frameBytesOf o (.ansSpcNoneEnableDeviceType data)
  | .ansSpcNoneDtr data => frameBytesOf o (.ansSpcNoneDtr data)
  | .ansSpcNoneDtr1 data => frameBytesOf o (.ansSpcNoneDtr1 data)
  | .ansSpcNoneDtr2 data => frameBytesOf o (.ansSpcNoneDtr2 data)
  | .ansQRequiredQueryStatus addr => frameBytesOf o (.ansQRequiredQueryStatus addr)
  | .ansQRequiredVersionMinlevel addr data => frameBytesOf o (.ansQRequiredVersionMinlevel addr data)
  | .ansQRequiredContentDtr1Dtr2 addr data => frameBytesOf o (.ansQRequiredContentDtr1Dtr2 addr data)
  | .ansQRequiredActualLevelFadeRate addr data => frameBytesOf o (.ansQRequiredActualLevelFadeRate addr data)
  | .ansQRequiredSceneLevelReadMemory addr data => frameBytesOf o (.ansQRequiredSceneLevelReadMemory addr data)
  | .ansQRequiredGearTypeExtVersion addr data => frameBytesOf o (.ansQRequiredGearTypeExtVersion addr data)
  | .ansQMaybeGearPresentMissingShort addr data => frameBytesOf o (.ansQMaybeGearPresentMissingShort addr data)
  | .ansQMaybePowerFailure addr => frameBytesOf o (.ansQMaybePowerFailure addr)
  | .ansDefault addr data => frameBytesOf o (.ansDefault addr data)
  | .rptInitialise data => frameBytesOf o (.rptInitialise data)
  | .rptRandomise => frameBytesOf o (.rptRandomise)
  | .rptRangeResetEnableWriteMemoryBroadcast data => frameBytesOf o (.rptRangeResetEnableWriteMemoryBroadcast data)
  | .rptRangeResetEnableWriteMemoryIndividual addr data => frameBytesOf o (.rptRangeResetEnableWriteMemoryIndividual addr data)
  | .rptRangeRefsyspowerSelectDimCurveBroadcast data => frameBytesOf o (.rptRangeRefsyspowerSelectDimCurveBroadcast data)
  | .rptRangeRefsyspowerSelectDimCurveIndividual addr data => frameBytesOf o (.rptRangeRefsyspowerSelectDimCurveIndividual addr data)
  | .rptDefault addr data => frameBytesOf o (.rptDefault addr data)
  | .stOk => statusBytes .ok
  | .stRcvOk => statusBytes .rcvOk
  | .stRcvErr => statusBytes .rcvErr
  | .stXmtTimeout => statusBytes .xmtTimeout
  | .stBusErr => statusBytes .busErr
  | .stEchoErr => statusBytes .echoErr
  | .stRcvTimeout => statusBytes .rcvTimeout
  | .stBusCol => statusBytes .busCol
  | .stIllOp => statusBytes .illOp
  | .stBusMonBad => statusBytes .busMonBad

/-! ### The opcode table's numbering -/

/-- Byte `k` of a number. -/
def byteAt (w k : Nat) : Byte := BitVec.ofNat 8 (w / 256 ^ k)

/-- The format an opcode-table word is read in, from its width and value alone (notes/assumptions/5.md): up to 8
bits, an ST4 code if below 16 and an EVT8 code otherwise; wider, a dispatch key if it is a valid one and a forward
frame otherwise. -/
def tableFormat (nbits w : Nat) : Format :=
  if nbits ≤ 8 then (if w % 256 < 16 then .st4 else .evt8)
  else if (keyInstr (byteAt w 1) (byteAt w 0)).isSome then .xt12
  else .answer

/-- The bytes of an opcode-table word, laid out as its format has them: a 16-bit word with its high byte (`addr`,
or the state) first, operand bytes of zeros after the code. -/
def tableBytes (nbits w : Nat) : List Byte :=
  match tableFormat nbits w with
  | .evt8 => [byteAt w 0, 0, 0, 0, 0]
  | .st4 => [byteAt w 0]
  | _ => [byteAt w 1, byteAt w 0]

/-- What the decoder reads from an instruction of the opcode table whose bits are `w`. -/
def decodeTableWord (nbits w : Nat) : Option Instr :=
  match decode Machine.defaultOpc (tableFormat nbits w) (tableBytes nbits w) with
  | .ok i _ => some i
  | .error _ => none

end Sys2Proof
end

