-- ==== Sys2Proof/Machine/State.lean ====
section
/-! DEFINITION. The state of the machine as plain data: every register, flag, buffer, queue and engine the spec names
(10_state.md), the inputs that stand for the free choices of the environment, and the state after reset (R44). -/

namespace Sys2Proof.Machine

/-- The actions: calls on the external collaborators (R12).  `StoreDevStatus()` is left out, as R237 allows: no rule
emits it. -/
inductive Action where
  /-- `ManTransmit(bytes, len)` -/
  | manTransmit (bytes : List Byte) (len : Nat)
  /-- `ManReceive(buf, len)` -/
  | manReceive (buf : RxBuf) (len : Nat)
  /-- `ManAbortReceive()` -/
  | manAbortReceive
  /-- `TimerOn(ms)` -/
  | timerOn (ms : Nat)
  /-- `TimerOff()` -/
  | timerOff
  /-- `PostCtl(evt)` -/
  | postCtl (e : CtlEvt)
  /-- `PostXmt(evt)` -/
  | postXmt (e : XmtEvt)
  /-- `GetBusState() -> bool` -/
  | getBusState (sample : Bool)
  /-- `QueuePut(msg) -> bool` -/
  | queuePut (m : BusMessage) (accepted : Bool)
  /-- `QueueGet() -> msg` -/
  | queueGet (m : BusMessage)
  /-- `OutputRcvMsg(msg)` -/
  | outputRcvMsg (m : BusMessage)
  deriving DecidableEq, Repr

/-- What the last host call or pure function returned (R107: "the script notes the returned bool"; R131, R139,
R250).  The MODEL's own field: no register of the block. -/
inductive Returned where
  | nothing
  /-- `TransmitMessage -> bool` -/
  | accepted (b : Bool)
  /-- `ClassifyAnswer -> AnswerExpectation` -/
  | answer (a : AnswerExpectation)
  /-- `ClassifyRepeat -> bool` -/
  | again (b : Bool)
  /-- `GetStatusDescription -> string` -/
  | text (t : String)
  deriving DecidableEq, Repr

/-- The machine.  STATE IS PLAIN DATA: the environment's free choices (which agent steps, with which bytes and samples)
are the lines of `script` (notes/assumptions/3.md). -/
structure State where
  /-- `ctl_state` (R21) -/
  ctlState : CtlState
  /-- `xmt_state` (R22) -/
  xmtState : XmtState
  /-- `cur`, the current message (R24); `frame` is a view of it (R25) -/
  cur : BusMessage
  /-- `ans` (R28) -/
  ans : AnswerExpectation
  /-- `rpt` (R29) -/
  rpt : Bool
  /-- `edge` (R30) -/
  edge : Bool
  /-- `mon_cnt` (R33) -/
  monCnt : BitVec 4
  /-- `mon_bad` (R33) -/
  monBad : Bool
  /-- `debug_mode`, an input level (R34) -/
  debugMode : Bool
  /-- `echo[0]` (R26) -/
  echo0 : Byte
  /-- `echo[1]` (R26) -/
  echo1 : Byte
  /-- `rspbuf[0]` (R26) -/
  rspbuf0 : Byte
  /-- `q`, the Message Queue, oldest first (R38) -/
  q : List BusMessage
  /-- `ctlq`, oldest first (R39) -/
  ctlq : List CtlEvt
  /-- `xmtq`, oldest first (R39) -/
  xmtq : List XmtEvt
  /-- `tmr_armed` (R40) -/
  tmrArmed : Bool
  /-- `tmr_ms` (R40) -/
  tmrMs : Nat
  /-- `tx_busy` (R41) -/
  txBusy : Bool
  /-- `rx_armed` (R41) -/
  rxArmed : Option (RxBuf × Nat)
  /-- `delivered`, oldest first (R42) -/
  delivered : List BusMessage
  /-- the action trace (R12), oldest first -/
  trace : List Action
  /-- the value the last call returned (the MODEL's own) -/
  returned : Returned
  /-- how many free values have been drawn (the MODEL's own) -/
  freeNext : Nat
  /-- the lines still to be offered, next first (R107; the MODEL's own: the environment's choices) -/
  script : List Line
  /-- the parameters of the machine (R8); no operation writes them -/
  params : Params
  deriving DecidableEq, Repr

/-- Why the machine stops with a fault.  The block itself has none (R260). -/
inductive Fault where
  /-- `QueueGet()` on an empty queue (U14).  Raised by the dequeue on entry to CTL's Wait; the guard of R232
  keeps every operation from reaching it.  Safe. -/
  | queueGetEmpty
  deriving DecidableEq, Repr

/-- Why a step is refused. -/
inductive Refusal where
  /-- Raised by `exec` for an operation without a meaning yet; no arm does.  Safe. -/
  | notModelled (mnemonic : String)
  /-- Raised by `step` on a line whose bytes are no operation (R105).  Safe. -/
  | undecodable (e : DecodeError)
  /-- Raised by a dispatch-key operation whose state is not the machine's: a key is made of the machine's own
  state (R101), so no such dispatch exists.  Safe. -/
  | keyNotCurrent
  /-- Raised by a row of the table that its operands do not select (R109): the term is not well-formed and no
  bytes decode to it.  Safe. -/
  | rowNotSelected
  /-- Raised by `DISPATCH` on an empty event queue: not enabled (R302).  Safe. -/
  | nothingToDispatch
  /-- Raised by `XMTDONE` when no transmission is in progress and R278 is in force: not enabled (U15).  Safe. -/
  | transmitIdle
  /-- Raised by `RCVDONE`, `RCVERR` or `EDGE` when no receive is armed and R279 is in force: not enabled (U15).
  Safe. -/
  | receiveIdle
  /-- Raised by `RCVDONE` with another number of bytes than armed when R279 is in force.  Safe. -/
  | receiveLength
  /-- Raised by `RCVDONE` into the echo buffer while the frame is still being sent, when R280 is in force.  Safe. -/
  | echoBeforeTransmitDone
  /-- Raised by `EXPIRE` when the timer is not armed and R281 is in force: not enabled (R107, U15).  Safe. -/
  | timerIdle
  deriving DecidableEq, Repr

/-- The three outcomes of an operation. -/
abbrev Result := Host.Outcome State Fault Refusal

/-- A message of zeros: what `cur` holds before CTL writes it, with an option of the type in force.  R44 gives it no value
(notes/assumptions/2.md, DESIGN CHOICE). -/
def blankMessage : BusMessage where
  addr := 0
  data := 0
  cb := none
  opt := []
  rsp := 0
  status := .ok

/-- The machine with given parameters right after reset (R44, R301). -/
def State.resetWith (p : Params) : State where
  ctlState := .idle
  xmtState := .idle
  cur := { blankMessage with opt := someHandle p.optT }
  ans := .none
  rpt := false
  edge := false
  monCnt := 0
  monBad := false
  debugMode := false
  echo0 := 0
  echo1 := 0
  rspbuf0 := 0
  q := []
  ctlq := []
  xmtq := []
  tmrArmed := false
  tmrMs := 0
  txBusy := false
  rxArmed := none
  delivered := []
  trace := []
  returned := .nothing
  freeNext := 0
  script := []
  params := p

/-- The machine right after reset, with the default parameters (R8, R44). -/
def State.reset : State := State.resetWith defaultParams

end Sys2Proof.Machine
end

