-- ==== Sys2Proof/Machine/Ops.lean ====
section
/-! DEFINITION. The named operations over the state: buffer bytes (R61), actions on the collaborators (R12), the
transition engine with its entry and exit actions (R171 to R176), the two ways a transaction ends early (R265), and
completion (R235, R267).  Every meaning is written over these. -/

namespace Sys2Proof.Machine

/-! ### Buffer bytes (R61) -/

/-- `MemRead` (R61): one byte; `frame` is a view of `cur` (R25). -/
def memRead (a : ByteAddr) (s : State) : Byte :=
  match a with
  | .frame0 => s.cur.addr
  | .frame1 => s.cur.data
  | .echo0 => s.echo0
  | .echo1 => s.echo1
  | .rspbuf0 => s.rspbuf0

/-- `MemWrite` (R61): one byte.  `frame` is read-only (R25), so a write to it changes nothing. -/
def memWrite (a : ByteAddr) (v : Byte) (s : State) : State :=
  match a with
  | .frame0 => s
  | .frame1 => s
  | .echo0 => { s with echo0 := v }
  | .echo1 => { s with echo1 := v }
  | .rspbuf0 => { s with rspbuf0 := v }

/-- Byte `i` of a receive buffer, if it is inside the buffer. -/
def bufByte (b : RxBuf) (i : Nat) : Option ByteAddr :=
  match b, i with
  | .echo, 0 => some .echo0
  | .echo, 1 => some .echo1
  | .rspbuf, 0 => some .rspbuf0
  | _, _ => none

/-- Store received bytes into a buffer in arrival order from index `i` (R62, R279); bytes past its end are not
stored. -/
def storeBytes (b : RxBuf) (i : Nat) (bs : List Byte) (s : State) : State :=
  match bs with
  | [] => s
  | v :: rest =>
    match bufByte b i with
    | some a => storeBytes b (i + 1) rest (memWrite a v s)
    | none => s

/-- The content of a receive buffer becomes unspecified: every byte a fresh free value (R66, U2, U6). -/
def surrender (b : RxBuf) (s : State) : State :=
  match b with
  | .echo =>
    { s with
      echo0 := Config.freeByte s.freeNext
      echo1 := Config.freeByte (s.freeNext + 1)
      freeNext := s.freeNext + 2 }
  | .rspbuf =>
    { s with
      rspbuf0 := Config.freeByte s.freeNext
      freeNext := s.freeNext + 1 }

/-- The bytes of `frame` that are sent: `FRAME_LEN` of them, index 0 first (R25, R62, R173). -/
def frameBytes (s : State) : List Byte := [memRead .frame0 s, memRead .frame1 s].take s.params.frameLen

/-- The bytes of the echo buffer beside those of `frame`, index by index (R25, R26). -/
def echoPairs : List (ByteAddr × ByteAddr) := [(.echo0, .frame0), (.echo1, .frame1)]

/-- The echo comparison: `FRAME_LEN` bytes, index by index (R62, R185, D35, R199(a)). -/
def echoMatches (s : State) : Bool :=
  (echoPairs.take s.params.frameLen).all (fun p => memRead p.1 s == memRead p.2 s)

/-! ### Actions (R12) -/

/-- `PostCtl(e)` (R39). -/
def postCtl (e : CtlEvt) (s : State) : State :=
  { s with ctlq := s.ctlq ++ [e], trace := s.trace ++ [.postCtl e] }

/-- `PostXmt(e)` (R39). -/
def postXmt (e : XmtEvt) (s : State) : State :=
  { s with xmtq := s.xmtq ++ [e], trace := s.trace ++ [.postXmt e] }

/-- `xmtq` without the expiries that `TimerOn` and `TimerOff` withdraw (R281); all of it where that contract is
dropped (R313, U18). -/
def withdrawTimeouts (s : State) : List XmtEvt :=
  if s.params.timerContract then s.xmtq.filter (fun e => e != .timeout) else s.xmtq

/-- `TimerOn(ms)` (R40, R281). -/
def timerOn (ms : Nat) (s : State) : State :=
  { s with
    tmrArmed := true
    tmrMs := ms
    xmtq := withdrawTimeouts s
    trace := s.trace ++ [.timerOn ms] }

/-- `TimerOff()` (R40, R281). -/
def timerOff (s : State) : State :=
  { s with
    tmrArmed := false
    xmtq := withdrawTimeouts s
    trace := s.trace ++ [.timerOff] }

/-- `ManTransmit(frame, FRAME_LEN)` (R41, R278).  While a transmission is in progress it restarts it, as R278 and U5
allow (notes/assumptions/9.md). -/
def manTransmit (s : State) : State :=
  { s with
    txBusy := true
    trace := s.trace ++ [.manTransmit (frameBytes s) s.params.frameLen] }

/-- `ManReceive(buf, n)` (R41, R279): the buffer is the transport's from here on (R66). -/
def manReceive (b : RxBuf) (n : Nat) (s : State) : State :=
  surrender b { s with rxArmed := some (b, n), trace := s.trace ++ [.manReceive b n] }

/-- `ManAbortReceive()` (R279): what the armed buffer holds is unspecified afterwards (R66). -/
def manAbortReceive (s : State) : State :=
  match s.rxArmed with
  | none => { s with trace := s.trace ++ [.manAbortReceive] }
  | some (b, _) => surrender b { s with rxArmed := none, trace := s.trace ++ [.manAbortReceive] }

/-- The message `TransmitMessage` builds (R95, R231). -/
def newMessage (addr data : Byte) (cb : Option CbT) (opt : OptT) : BusMessage where
  addr := addr
  data := data
  cb := cb
  opt := opt
  rsp := 0
  status := .ok

/-- Whether `QueuePut` accepts (R38): `q` holds fewer than `QDEPTH` records. -/
def queueHasRoom (s : State) : Bool := decide (s.q.length < s.params.qdepth)

/-- `QueuePut(m)` (R38): appends, or changes nothing when full. -/
def queuePut (m : BusMessage) (s : State) : State :=
  if queueHasRoom s then { s with q := s.q ++ [m], trace := s.trace ++ [.queuePut m true] }
  else { s with trace := s.trace ++ [.queuePut m false] }

/-- `QueueGet()` (R38): removes and returns the oldest record. -/
def queueGet (s : State) : Option (BusMessage × State) :=
  match s.q with
  | [] => none
  | m :: rest => some (m, { s with q := rest, trace := s.trace ++ [.queueGet m] })

/-- `OutputRcvMsg(m)` (R42, R237). -/
def outputRcvMsg (m : BusMessage) (s : State) : State :=
  { s with delivered := s.delivered ++ [m], trace := s.trace ++ [.outputRcvMsg m] }

/-- `cur.status <- st`. -/
def setStatus (st : ResultStatus) (s : State) : State := { s with cur := { s.cur with status := st } }

/-- Note the value a call returned. -/
def setReturned (r : Returned) (s : State) : State := { s with returned := r }

/-! ### The XMT transition engine (R171 to R175) -/

/-- `start_frame()` (R173): receive armed, transmit started, echo window armed, in that order. -/
def startFrame (s : State) : State := timerOn s.params.tEchoMs (manTransmit (manReceive .echo s.params.frameLen s))

/-- `report_done()` (R174). -/
def reportDone (s : State) : State := postCtl .xactdone s

/-- The exit action of a state (R173, R174). -/
def xmtExit (st : XmtState) (s : State) : State :=
  match st with
  | .idle => startFrame s
  | .waitXmtDone => reportDone s
  | .waitXmtEcho => reportDone s
  | .waitRcvDone => reportDone s
  | .waitFrameTime => reportDone s
  | .waitBackFrameTime => reportDone s

/-- The entry action of WaitRcvDone (R188). -/
def enterWaitRcvDone (s : State) : State :=
  let armed := timerOn s.params.tRcvMs (manReceive .rspbuf s.params.rspLen s)
  { setStatus .rcvTimeout armed with edge := false }

/-- The entry action of a state (R172, R180, R184, R188, R193, R195). -/
def xmtEntry (st : XmtState) (s : State) : State :=
  match st with
  | .idle => s
  | .waitXmtDone => setStatus .xmtTimeout s
  | .waitXmtEcho => setStatus .busErr s
  | .waitRcvDone => enterWaitRcvDone s
  | .waitFrameTime => timerOn s.params.tFrameMs s
  | .waitBackFrameTime => timerOn s.params.tBackMs s

/-- The end of a dispatch whose body named `next` (R171, steps 3 and 4): on a change of state the exit action of the
state left unless suppressed, the change, the entry action of the state entered; otherwise nothing. -/
def xmtGoto (next : XmtState) (suppressExit : Bool) (s : State) : State :=
  if next = s.xmtState then s
  else
    let left := if suppressExit then s else xmtExit s.xmtState s
    xmtEntry next { left with xmtState := next }

/-! ### Taking a fault, and completion (R265, R267): the block's exception entry and return -/

/-- `abort(st)` (R176, R199(d)): what is saved is the status, XMT goes to Idle, the exit action reports. -/
def abort (st : ResultStatus) (s : State) : State := xmtGoto .idle false (setStatus st s)

/-- The fast path from Idle (R178, R179, R199(b), R265(a)): the status, one `PostCtl(XACTDONE)`, no transition. -/
def failFast (st : ResultStatus) (s : State) : State := postCtl .xactdone (setStatus st s)

/-- The conditional re-post of R235: only under `defer`, and only with records waiting. -/
def repostPending (s : State) : State :=
  if s.params.ctlBusyEnq = .defer ∧ s.q ≠ [] then postCtl .msgenq s else s

/-- Completion (R235, R267): deliver `cur`, re-post if so configured, return CTL to Idle. -/
def complete (s : State) : State := { repostPending (outputRcvMsg s.cur s) with ctlState := .idle }

/-- The transition of CTL to Wait with its entry action (R233): dequeue, clear the response byte, post `START`. -/
def enterWait (s : State) : Result :=
  match queueGet { s with ctlState := .wait } with
  | none => .fault .queueGetEmpty
  | some (m, s') => .next (postXmt .start { s' with cur := { m with rsp := 0 } })

/-- An event no rule handles is consumed and nothing else happens (R197, R236). -/
def ignoreEvent (s : State) : State := s

/-! ### The monitor (R161) -/

/-- `MONTICK` with a sample. -/
def monitorTick (sample : Bool) (s : State) : State :=
  let cnt := monCntNext s.params.monThreshold s.monCnt sample
  { s with
    monCnt := cnt
    monBad := monBadNext s.params.monThreshold cnt s.monBad sample
    trace := s.trace ++ [.getBusState sample] }

/-! ### The rows of the table as operations -/

/-- An XMT dispatch key in the state it names; in another state there is no such dispatch (R13, R101). -/
def inXmtState (st : XmtState) (rule : State → State) (s : State) : Result :=
  if s.xmtState = st then .next (rule s) else .refused .keyNotCurrent

/-- A CTL dispatch key in the state it names. -/
def inCtlState (st : CtlState) (rule : State → Result) (s : State) : Result :=
  if s.ctlState = st then rule s else .refused .keyNotCurrent

/-- A row of `ClassifyAnswer` evaluated for a frame that selects it: its result is returned, no flag is written
(R131). -/
def evalAnswerRow (r : AnsRow) (addr data : Byte) (s : State) : Result :=
  if selectAnswerRow s.params.opc addr data = r then
    .next (setReturned (.answer (answerRowResult r addr s.debugMode)) s)
  else .refused .rowNotSelected

/-- A row of `ClassifyRepeat` evaluated for a frame that selects it (R139). -/
def evalRepeatRow (r : RptRow) (addr data : Byte) (s : State) : Result :=
  if selectRepeatRow s.params.opc addr data = r then .next (setReturned (.again (repeatRowResult r)) s)
  else .refused .rowNotSelected

/-- A status code given to the status table (R104, R250). -/
def describe (n : Nat) (s : State) : State := setReturned (.text (describeStatus s.params.strings n)) s

end Sys2Proof.Machine
end

