-- ==== Sys2Proof/Machine/AnswerRows.lean ====
section
/-! DEFINITION. The meanings of the FF16 rows `ANS.*`: the rows of `ClassifyAnswer` (R131 to R138).  A row's meaning is the value the
function returns for a frame that selects the row; the function writes no flag (notes/assumptions/5.md). -/

namespace Sys2Proof.Machine

/-- `ANS.LEVEL`: R138 row 1 of ClassifyAnswer: addr[0] = 0 (raw level addressing). -/
def execAnsLevel (addr : Byte) (data : Byte) (s : State) : Result :=
  evalAnswerRow .level addr data s

/-- `ANS.SPC_MAYBE.COMPARE`: R132 row 2 of ClassifyAnswer: addr = OPC.SPC_COMPARE and data = 0. -/
def execAnsSpcMaybeCompare (s : State) : Result :=
  evalAnswerRow .compare s.params.opc.spcCompare 0 s

/-- `ANS.SPC_MAYBE.WRITE_MEMORY_LOCATION`: R132 row 3 of ClassifyAnswer: addr = OPC.SPC_WRITE_MEMORY_LOCATION, any data. -/
def execAnsSpcMaybeWriteMemoryLocation (data : Byte) (s : State) : Result :=
  evalAnswerRow .writeMemoryLocation s.params.opc.spcWriteMemoryLocation data s

/-- `ANS.SPC_REQUIRED.QUERY_SHORT_ADDR`: R133 row 4 of ClassifyAnswer: addr = OPC.SPC_QUERY_SHORT_ADDR and data = 0. -/
def execAnsSpcRequiredQueryShortAddr (s : State) : Result :=
  evalAnswerRow .queryShortAddr s.params.opc.spcQueryShortAddr 0 s

/-- `ANS.SPC_REQUIRED.VERIFY_SHORT_ADDR`: R133 row 5 of ClassifyAnswer: addr = OPC.SPC_VERIFY_SHORT_ADDR, any data. -/
def execAnsSpcRequiredVerifyShortAddr (data : Byte) (s : State) : Result :=
  evalAnswerRow .verifyShortAddr s.params.opc.spcVerifyShortAddr data s

/-- `ANS.SPC_NONE.INITIALISE`: R134 row 6 of ClassifyAnswer: addr = OPC.SPC_INITIALISE, any data. -/
def execAnsSpcNoneInitialise (data : Byte) (s : State) : Result :=
  evalAnswerRow .initialise s.params.opc.spcInitialise data s

/-- `ANS.SPC_NONE.RANDOMISE`: R134 row 7 of ClassifyAnswer: addr = OPC.SPC_RANDOMISE, any data. -/
def execAnsSpcNoneRandomise (data : Byte) (s : State) : Result :=
  evalAnswerRow .randomise s.params.opc.spcRandomise data s

/-- `ANS.SPC_NONE.WITHDRAW`: R134 row 8 of ClassifyAnswer: addr = OPC.SPC_WITHDRAW, any data. -/
def execAnsSpcNoneWithdraw (data : Byte) (s : State) : Result :=
  evalAnswerRow .withdraw s.params.opc.spcWithdraw data s

/-- `ANS.SPC_NONE.SEARCHADDRH`: R134 row 9 of ClassifyAnswer: addr = OPC.SPC_SEARCHADDRH, any data. -/
def execAnsSpcNoneSearchaddrh (data : Byte) (s : State) : Result :=
  evalAnswerRow .searchaddrh s.params.opc.spcSearchaddrh data s

/-- `ANS.SPC_NONE.SEARCHADDRM`: R134 row 10 of ClassifyAnswer: addr = OPC.SPC_SEARCHADDRM, any data. -/
def execAnsSpcNoneSearchaddrm (data : Byte) (s : State) : Result :=
  evalAnswerRow .searchaddrm s.params.opc.spcSearchaddrm data s

/-- `ANS.SPC_NONE.SEARCHADDRL`: R134 row 11 of ClassifyAnswer: addr = OPC.SPC_SEARCHADDRL, any data. -/
def execAnsSpcNoneSearchaddrl (data : Byte) (s : State) : Result :=
  evalAnswerRow .searchaddrl s.params.opc.spcSearchaddrl data s

/-- `ANS.SPC_NONE.PROGRAM_SHORT_ADDR`: R134 row 12 of ClassifyAnswer: addr = OPC.SPC_PROGRAM_SHORT_ADDR, any data. -/
def execAnsSpcNoneProgramShortAddr (data : Byte) (s : State) : Result :=
  evalAnswerRow .programShortAddr s.params.opc.spcProgramShortAddr data s

/-- `ANS.SPC_NONE.ENABLE_DEVICE_TYPE`: R134 row 13 of ClassifyAnswer: addr = OPC.SPC_ENABLE_DEVICE_TYPE, any data. -/
def execAnsSpcNoneEnableDeviceType (data : Byte) (s : State) : Result :=
  evalAnswerRow .enableDeviceType s.params.opc.spcEnableDeviceType data s

/-- `ANS.SPC_NONE.DTR`: R134 row 14 of ClassifyAnswer: addr = OPC.SPC_DTR, any data. -/
def execAnsSpcNoneDtr (data : Byte) (s : State) : Result :=
  evalAnswerRow .dtr s.params.opc.spcDtr data s

/-- `ANS.SPC_NONE.DTR1`: R134 row 15 of ClassifyAnswer: addr = OPC.SPC_DTR1, any data. -/
def execAnsSpcNoneDtr1 (data : Byte) (s : State) : Result :=
  evalAnswerRow .dtr1 s.params.opc.spcDtr1 data s

/-- `ANS.SPC_NONE.DTR2`: R134 row 16 of ClassifyAnswer: addr = OPC.SPC_DTR2, any data. -/
def execAnsSpcNoneDtr2 (data : Byte) (s : State) : Result :=
  evalAnswerRow .dtr2 s.params.opc.spcDtr2 data s

/-- `ANS.Q_REQUIRED.QUERY_STATUS`: R135 row 17 of ClassifyAnswer: addr[0] = 1, no earlier row matched, data in data_range. -/
def execAnsQRequiredQueryStatus (addr : Byte) (s : State) : Result :=
  evalAnswerRow .queryStatus addr s.params.opc.cmdQueryStatus s

/-- `ANS.Q_REQUIRED.VERSION_MINLEVEL`: R135 row 18 of ClassifyAnswer: addr[0] = 1, no earlier row matched, data in data_range. -/
def execAnsQRequiredVersionMinlevel (addr : Byte) (data : Byte) (s : State) : Result :=
  evalAnswerRow .versionMinlevel addr data s

/-- `ANS.Q_REQUIRED.CONTENT_DTR1_DTR2`: R135 row 19 of ClassifyAnswer: addr[0] = 1, no earlier row matched, data in data_range. -/
def execAnsQRequiredContentDtr1Dtr2 (addr : Byte) (data : Byte) (s : State) : Result :=
  evalAnswerRow .contentDtr1Dtr2 addr data s

/-- `ANS.Q_REQUIRED.ACTUAL_LEVEL_FADE_RATE`: R135 row 20 of ClassifyAnswer: addr[0] = 1, no earlier row matched, data in data_range. -/
def execAnsQRequiredActualLevelFadeRate (addr : Byte) (data : Byte) (s : State) : Result :=
  evalAnswerRow .actualLevelFadeRate addr data s

/-- `ANS.Q_REQUIRED.SCENE_LEVEL_READ_MEMORY`: R135 row 21 of ClassifyAnswer: addr[0] = 1, no earlier row matched, data in data_range. -/
def execAnsQRequiredSceneLevelReadMemory (addr : Byte) (data : Byte) (s : State) : Result :=
  evalAnswerRow .sceneLevelReadMemory addr data s

/-- `ANS.Q_REQUIRED.GEAR_TYPE_EXT_VERSION`: R135 row 22 of ClassifyAnswer: addr[0] = 1, no earlier row matched, data in data_range. -/
def execAnsQRequiredGearTypeExtVersion (addr : Byte) (data : Byte) (s : State) : Result :=
  evalAnswerRow .gearTypeExtVersion addr data s

/-- `ANS.Q_MAYBE.GEAR_PRESENT_MISSING_SHORT`: R136 row 23 of ClassifyAnswer: addr[0] = 1, no earlier row matched, data in data_range. -/
def execAnsQMaybeGearPresentMissingShort (addr : Byte) (data : Byte) (s : State) : Result :=
  evalAnswerRow .gearPresentMissingShort addr data s

/-- `ANS.Q_MAYBE.POWER_FAILURE`: R136 row 24 of ClassifyAnswer: addr[0] = 1, no earlier row matched, data in data_range. -/
def execAnsQMaybePowerFailure (addr : Byte) (s : State) : Result :=
  evalAnswerRow .powerFailure addr s.params.opc.cmdQueryPowerFailure s

/-- `ANS.DEFAULT`: R137 row 25 of ClassifyAnswer: addr[0] = 1 and no earlier ANS row matched. -/
def execAnsDefault (addr : Byte) (data : Byte) (s : State) : Result :=
  evalAnswerRow .other addr data s

end Sys2Proof.Machine
end

