-- ==== Sys2Proof/Machine/CtlRules.lean ====
section
/-! DEFINITION. The transition rules of the CTL machine and the host calls (43_ctl.md, 44_status.md). -/

namespace Sys2Proof.Machine

/-- R232 with the entry action R233: no transition when `q` is empty. -/
def ctlIdleMsgenqRule (s : State) : Result := if s.q = [] then .next s else enterWait s

/-- R234: consumed without effect, under both values of `CTL_BUSY_ENQ`. -/
def ctlWaitMsgenqRule (s : State) : Result := .next (ignoreEvent s)

/-- R235. -/
def ctlWaitXactdoneRule (s : State) : Result := .next (complete s)

/-- R236. -/
def ctlIdleXactdoneRule (s : State) : Result := .next (ignoreEvent s)

/-- `MSGENQ` by state: `CtlEventHandler(event)` (R230). -/
def dispatchMsgenq (s : State) : Result :=
  match s.ctlState with
  | .idle => ctlIdleMsgenqRule s
  | .wait => ctlWaitMsgenqRule s

/-- `XACTDONE` by state. -/
def dispatchXactdone (s : State) : Result :=
  match s.ctlState with
  | .idle => ctlIdleXactdoneRule s
  | .wait => ctlWaitXactdoneRule s

/-- `TransmitMessage` (R231). -/
def transmitMessage (m : BusMessage) (s : State) : State :=
  if queueHasRoom s then setReturned (.accepted true) (postCtl .msgenq (queuePut m s))
  else setReturned (.accepted false) (queuePut m s)

end Sys2Proof.Machine
end

