-- ==== Sys2Proof/Machine/CtlRows.lean ====
section
/-! DEFINITION. The meanings of the XT12 rows of the CTL machine (R101). -/

namespace Sys2Proof.Machine

/-- `CTL.Idle.MSGENQ`: dispatch key `0x010` (R232). -/
def execCtlIdleMsgenq (s : State) : Result := inCtlState .idle ctlIdleMsgenqRule s

/-- `CTL.Wait.MSGENQ`: dispatch key `0x110` (R234). -/
def execCtlWaitMsgenq (s : State) : Result := inCtlState .wait ctlWaitMsgenqRule s

/-- `CTL.Wait.XACTDONE`: dispatch key `0x111` (R235). -/
def execCtlWaitXactdone (s : State) : Result := inCtlState .wait ctlWaitXactdoneRule s

/-- `CTL.default`: the pair without a row is ignored (R236). -/
def execCtlDefault (st : CtlState) (ev : CtlEvt) (s : State) : Result :=
  if ctlHasRow st ev then .refused .rowNotSelected else inCtlState st ctlIdleXactdoneRule s

end Sys2Proof.Machine
end

