-- ==== Sys2Proof/Machine/XmtRules.lean ====
section
/-! DEFINITION. The transition rules of the XMT machine (42_xmt.md), one body per rule, and the dispatch of an event by
state (R171, R198). -/

namespace Sys2Proof.Machine

/-- The classification latched by `START` (R130, R177): `ans` and `rpt`. -/
def classifyCurrent (s : State) : State :=
  { s with
    ans := classifyAnswer s.params.opc s.cur.addr s.cur.data s.debugMode
    rpt := classifyRepeat s.params.opc s.cur.addr s.cur.data }

/-- R177 to R179, R199(b): fail fast on a bad bus, refuse an illegal query, else start the frame. -/
def xmtIdleStartRule (s : State) : State :=
  if s.monBad then failFast .busMonBad s
  else if (classifyCurrent s).ans = .error then failFast .illOp (classifyCurrent s)
  else xmtGoto .waitXmtDone false (classifyCurrent s)

/-- R181. -/
def xmtWaitXmtDoneManxmtdoneRule (s : State) : State := xmtGoto .waitXmtEcho true s

/-- R182. -/
def xmtWaitXmtDoneManrcverorRule (s : State) : State := abort .busErr s

/-- R183. -/
def xmtWaitXmtDoneTimeoutRule (s : State) : State := abort .xmtTimeout s

/-- R185, R199(a): the timer is stopped before the comparison, in all three outcomes. -/
def xmtWaitXmtEchoManrcvdoneRule (s : State) : State :=
  if echoMatches (timerOff s) then
    if answerExpected s.ans then xmtGoto .waitRcvDone true (timerOff s)
    else xmtGoto .waitFrameTime true (setStatus .ok (timerOff s))
  else abort .echoErr (timerOff s)

/-- R186. -/
def xmtWaitXmtEchoManrcverorRule (s : State) : State := abort .busErr s

/-- R187. -/
def xmtWaitXmtEchoTimeoutRule (s : State) : State := abort .busErr s

/-- R189. -/
def xmtWaitRcvDoneEdgeseenRule (s : State) : State := { s with edge := true }

/-- `cur.rsp <- MemRead(rspbuf, 0)` (R190). -/
def copyResponse (s : State) : State := { s with cur := { s.cur with rsp := memRead .rspbuf0 s } }

/-- R190. -/
def xmtWaitRcvDoneManrcvdoneRule (s : State) : State :=
  xmtGoto .waitBackFrameTime true (setStatus .rcvOk (copyResponse (timerOff s)))

/-- R191, R199(d): a garbled answer clears the repeat flag, so nothing is sent again. -/
def xmtWaitRcvDoneManrcverorRule (s : State) : State :=
  xmtGoto .waitFrameTime true { setStatus (if s.edge then .busCol else .rcvTimeout) s with rpt := false }

/-- R192. -/
def xmtWaitRcvDoneTimeoutRule (s : State) : State :=
  abort (if s.ans = .required then .rcvTimeout else .ok) (manAbortReceive s)

/-- R194, R199(c): the second transmission of an auto-repeat, or the end of the transaction. -/
def xmtWaitFrameTimeTimeoutRule (s : State) : State :=
  if s.rpt then xmtGoto .waitXmtDone true (startFrame { s with rpt := false })
  else xmtGoto .idle false s

/-- R196. -/
def xmtWaitBackFrameTimeTimeoutRule (s : State) : State := xmtGoto .idle false s

/-! ### Dispatch by state: `XmtEventHandler(event)` (R198, R230) -/

/-- `START`. -/
def dispatchStart (s : State) : State :=
  match s.xmtState with
  | .idle => xmtIdleStartRule s
  | .waitXmtDone => ignoreEvent s
  | .waitXmtEcho => ignoreEvent s
  | .waitRcvDone => ignoreEvent s
  | .waitFrameTime => ignoreEvent s
  | .waitBackFrameTime => ignoreEvent s

/-- `TIMEOUT`. -/
def dispatchTimeout (s : State) : State :=
  match s.xmtState with
  | .idle => ignoreEvent s
  | .waitXmtDone => xmtWaitXmtDoneTimeoutRule s
  | .waitXmtEcho => xmtWaitXmtEchoTimeoutRule s
  | .waitRcvDone => xmtWaitRcvDoneTimeoutRule s
  | .waitFrameTime => xmtWaitFrameTimeTimeoutRule s
  | .waitBackFrameTime => xmtWaitBackFrameTimeTimeoutRule s

/-- `MANXMTDONE`. -/
def dispatchManxmtdone (s : State) : State :=
  match s.xmtState with
  | .idle => ignoreEvent s
  | .waitXmtDone => xmtWaitXmtDoneManxmtdoneRule s
  | .waitXmtEcho => ignoreEvent s
  | .waitRcvDone => ignoreEvent s
  | .waitFrameTime => ignoreEvent s
  | .waitBackFrameTime => ignoreEvent s

/-- `MANRCVDONE`. -/
def dispatchManrcvdone (s : State) : State :=
  match s.xmtState with
  | .idle => ignoreEvent s
  | .waitXmtDone => ignoreEvent s
  | .waitXmtEcho => xmtWaitXmtEchoManrcvdoneRule s
  | .waitRcvDone => xmtWaitRcvDoneManrcvdoneRule s
  | .waitFrameTime => ignoreEvent s
  | .waitBackFrameTime => ignoreEvent s

/-- `MANRCVEROR`. -/
def dispatchManrcveror (s : State) : State :=
  match s.xmtState with
  | .idle => ignoreEvent s
  | .waitXmtDone => xmtWaitXmtDoneManrcverorRule s
  | .waitXmtEcho => xmtWaitXmtEchoManrcverorRule s
  | .waitRcvDone => xmtWaitRcvDoneManrcverorRule s
  | .waitFrameTime => ignoreEvent s
  | .waitBackFrameTime => ignoreEvent s

/-- `EDGESEEN`. -/
def dispatchEdgeseen (s : State) : State :=
  match s.xmtState with
  | .idle => ignoreEvent s
  | .waitXmtDone => ignoreEvent s
  | .waitXmtEcho => ignoreEvent s
  | .waitRcvDone => xmtWaitRcvDoneEdgeseenRule s
  | .waitFrameTime => ignoreEvent s
  | .waitBackFrameTime => ignoreEvent s

end Sys2Proof.Machine
end

