-- ==== Sys2Proof/Machine/Events.lean ====
section
/-! DEFINITION. The meanings of the EVT8 rows: the eight events dispatched by the machine's state, the monitor tick and the
two host calls (R100). -/

namespace Sys2Proof.Machine

/-- `MSGENQ`: "message enqueued" dispatched into CTL (R232, R234). -/
def execMsgenq (s : State) : Result := dispatchMsgenq s

/-- `XACTDONE`: "transaction done" dispatched into CTL (R235, R236). -/
def execXactdone (s : State) : Result := dispatchXactdone s

/-- `START`: "start" dispatched into XMT (R177, R197). -/
def execStart (s : State) : Result := .next (dispatchStart s)

/-- `TIMEOUT`: "timer-timeout" dispatched into XMT (R183, R187, R192, R194, R196, R197). -/
def execTimeout (s : State) : Result := .next (dispatchTimeout s)

/-- `MANXMTDONE`: "transmit-done" dispatched into XMT (R181, R197). -/
def execManxmtdone (s : State) : Result := .next (dispatchManxmtdone s)

/-- `MANRCVDONE`: "receive-done" dispatched into XMT (R185, R190, R197). -/
def execManrcvdone (s : State) : Result := .next (dispatchManrcvdone s)

/-- `MANRCVEROR`: "receive-error" dispatched into XMT (R182, R186, R191, R197). -/
def execManrcveror (s : State) : Result := .next (dispatchManrcveror s)

/-- `EDGESEEN`: "edge-seen" dispatched into XMT (R189, R197). -/
def execEdgeseen (s : State) : Result := .next (dispatchEdgeseen s)

/-- `MONTICK`: the monitor tick with the sample `GetBusState()` returned (R161, R162: `true` is bad). -/
def execMontick (sample : Bool) (s : State) : Result := .next (monitorTick sample s)

/-- `TRANSMITMESSAGE`: the host call (R231); every frame is accepted for submission (R105(a)). -/
def execTransmitmessage (addr data : Byte) (cb : Option CbT) (opt : OptT) (s : State) : Result :=
  .next (transmitMessage (newMessage addr data cb opt) s)

/-- `GETSTATUSDESC`: the host call (R250). -/
def execGetstatusdesc (status : Byte) (s : State) : Result := .next (describe status.toNat s)

end Sys2Proof.Machine
end

