-- ==== Sys2Proof/Machine/RepeatRows.lean ====
section
/-! DEFINITION. The meanings of the FF16 rows `RPT.*`: the rows of `ClassifyRepeat` (R139 to R143).  A row's meaning is the value the
function returns for a frame that selects the row; the function writes no flag (notes/assumptions/5.md). -/

namespace Sys2Proof.Machine

/-- `RPT.INITIALISE`: R140 row 1 of ClassifyRepeat: addr = OPC.SPC_INITIALISE, any data. -/
def execRptInitialise (data : Byte) (s : State) : Result :=
  evalRepeatRow .initialise s.params.opc.spcInitialise data s

/-- `RPT.RANDOMISE`: R141 row 2 of ClassifyRepeat: addr = OPC.SPC_RANDOMISE and data = 0. -/
def execRptRandomise (s : State) : Result :=
  evalRepeatRow .randomise s.params.opc.spcRandomise 0 s

/-- `RPT.RANGE.RESET_ENABLE_WRITE_MEMORY.BROADCAST`: R142 row 3 of ClassifyRepeat: addr = 0xFF (broadcast-command address) and data in data_range. -/
def execRptRangeResetEnableWriteMemoryBroadcast (data : Byte) (s : State) : Result :=
  evalRepeatRow .resetBroadcast 0xFF data s

/-- `RPT.RANGE.RESET_ENABLE_WRITE_MEMORY.INDIVIDUAL`: R142 row 4 of ClassifyRepeat: addr[7] = 0 and addr[0] = 1 (individually addressed command) and data in data_range. -/
def execRptRangeResetEnableWriteMemoryIndividual (addr : Byte) (data : Byte) (s : State) : Result :=
  evalRepeatRow .resetIndividual addr data s

/-- `RPT.RANGE.REFSYSPOWER_SELECT_DIM_CURVE.BROADCAST`: R142 row 5 of ClassifyRepeat: addr = 0xFF (broadcast-command address) and data in data_range. -/
def execRptRangeRefsyspowerSelectDimCurveBroadcast (data : Byte) (s : State) : Result :=
  evalRepeatRow .powerBroadcast 0xFF data s

/-- `RPT.RANGE.REFSYSPOWER_SELECT_DIM_CURVE.INDIVIDUAL`: R142 row 6 of ClassifyRepeat: addr[7] = 0 and addr[0] = 1 (individually addressed command) and data in data_range. -/
def execRptRangeRefsyspowerSelectDimCurveIndividual (addr : Byte) (data : Byte) (s : State) : Result :=
  evalRepeatRow .powerIndividual addr data s

/-- `RPT.DEFAULT`: R143 row 7 of ClassifyRepeat: no earlier RPT row matched. -/
def execRptDefault (addr : Byte) (data : Byte) (s : State) : Result :=
  evalRepeatRow .other addr data s

end Sys2Proof.Machine
end

