-- ==== Sys2Proof/Machine/StatusRows.lean ====
section
/-! DEFINITION. The meanings of the ST4 rows: the code as the operand of the status table (R104, R250;
notes/assumptions/5.md). -/

namespace Sys2Proof.Machine

/-- `ST_OK`: status code 0x0 (R104, R251). -/
def execStOk (s : State) : Result := .next (describe 0 s)

/-- `ST_RCVOK`: status code 0x1 (R104, R251). -/
def execStRcvOk (s : State) : Result := .next (describe 1 s)

/-- `ST_RCVERR`: status code 0x2 (R104, R251). -/
def execStRcvErr (s : State) : Result := .next (describe 2 s)

/-- `ST_XMTTIMEOUT`: status code 0x3 (R104, R251). -/
def execStXmtTimeout (s : State) : Result := .next (describe 3 s)

/-- `ST_BUSERR`: status code 0x4 (R104, R251). -/
def execStBusErr (s : State) : Result := .next (describe 4 s)

/-- `ST_ECHOERR`: status code 0x5 (R104, R251). -/
def execStEchoErr (s : State) : Result := .next (describe 5 s)

/-- `ST_RCVTIMEOUT`: status code 0x6 (R104, R251). -/
def execStRcvTimeout (s : State) : Result := .next (describe 6 s)

/-- `ST_BUSCOL`: status code 0x7 (R104, R251). -/
def execStBusCol (s : State) : Result := .next (describe 7 s)

/-- `ST_ILLOP`: status code 0x8 (R104, R251). -/
def execStIllOp (s : State) : Result := .next (describe 8 s)

/-- `ST_BUSMONBAD`: status code 0x9 (R104, R251). -/
def execStBusMonBad (s : State) : Result := .next (describe 9 s)

end Sys2Proof.Machine
end

