-- ==== Sys2Proof/Machine/XmtRows.lean ====
section
/-! DEFINITION. The meanings of the XT12 rows of the XMT machine: an event dispatched in the state its key names (R101). -/

namespace Sys2Proof.Machine

/-- `XMT.Idle.START`: dispatch key `0x020` (R177). -/
def execXmtIdleStart (s : State) : Result := inXmtState .idle xmtIdleStartRule s

/-- `XMT.WaitXmtDone.MANXMTDONE`: dispatch key `0x122` (R181). -/
def execXmtWaitXmtDoneManxmtdone (s : State) : Result := inXmtState .waitXmtDone xmtWaitXmtDoneManxmtdoneRule s

/-- `XMT.WaitXmtDone.MANRCVEROR`: dispatch key `0x124` (R182). -/
def execXmtWaitXmtDoneManrcveror (s : State) : Result := inXmtState .waitXmtDone xmtWaitXmtDoneManrcverorRule s

/-- `XMT.WaitXmtDone.TIMEOUT`: dispatch key `0x121` (R183). -/
def execXmtWaitXmtDoneTimeout (s : State) : Result := inXmtState .waitXmtDone xmtWaitXmtDoneTimeoutRule s

/-- `XMT.WaitXmtEcho.MANRCVDONE`: dispatch key `0x223` (R185). -/
def execXmtWaitXmtEchoManrcvdone (s : State) : Result := inXmtState .waitXmtEcho xmtWaitXmtEchoManrcvdoneRule s

/-- `XMT.WaitXmtEcho.MANRCVEROR`: dispatch key `0x224` (R186). -/
def execXmtWaitXmtEchoManrcveror (s : State) : Result := inXmtState .waitXmtEcho xmtWaitXmtEchoManrcverorRule s

/-- `XMT.WaitXmtEcho.TIMEOUT`: dispatch key `0x221` (R187). -/
def execXmtWaitXmtEchoTimeout (s : State) : Result := inXmtState .waitXmtEcho xmtWaitXmtEchoTimeoutRule s

/-- `XMT.WaitRcvDone.EDGESEEN`: dispatch key `0x325` (R189). -/
def execXmtWaitRcvDoneEdgeseen (s : State) : Result := inXmtState .waitRcvDone xmtWaitRcvDoneEdgeseenRule s

/-- `XMT.WaitRcvDone.MANRCVDONE`: dispatch key `0x323` (R190). -/
def execXmtWaitRcvDoneManrcvdone (s : State) : Result := inXmtState .waitRcvDone xmtWaitRcvDoneManrcvdoneRule s

/-- `XMT.WaitRcvDone.MANRCVEROR`: dispatch key `0x324` (R191). -/
def execXmtWaitRcvDoneManrcveror (s : State) : Result := inXmtState .waitRcvDone xmtWaitRcvDoneManrcverorRule s

/-- `XMT.WaitRcvDone.TIMEOUT`: dispatch key `0x321` (R192). -/
def execXmtWaitRcvDoneTimeout (s : State) : Result := inXmtState .waitRcvDone xmtWaitRcvDoneTimeoutRule s

/-- `XMT.WaitFrameTime.TIMEOUT`: dispatch key `0x421` (R194). -/
def execXmtWaitFrameTimeTimeout (s : State) : Result := inXmtState .waitFrameTime xmtWaitFrameTimeTimeoutRule s

/-- `XMT.WaitBackFrameTime.TIMEOUT`: dispatch key `0x521` (R196). -/
def execXmtWaitBackFrameTimeTimeout (s : State) : Result := inXmtState .waitBackFrameTime xmtWaitBackFrameTimeTimeoutRule s

/-- `XMT.default`: the pairs without a row are ignored (R197). -/
def execXmtDefault (st : XmtState) (ev : XmtEvt) (s : State) : Result :=
  if xmtHasRow st ev then .refused .rowNotSelected else inXmtState st ignoreEvent s

end Sys2Proof.Machine
end

