-- ==== Sys2Proof/Machine/Dispatch.lean ====
section
/-! DEFINITION. `exec`: one arm per constructor of `Instr`, each one direct call of that operation's meaning. -/

namespace Sys2Proof.Machine

def exec (i : Instr) (s : State) : Host.Outcome State Fault Refusal :=
  match i with
  | .msgenq => Sys2Proof.Machine.execMsgenq s
  | .xactdone => Sys2Proof.Machine.execXactdone s
  | .start => Sys2Proof.Machine.execStart s
  | .timeout => Sys2Proof.Machine.execTimeout s
  | .manxmtdone => Sys2Proof.Machine.execManxmtdone s
  | .manrcvdone => Sys2Proof.Machine.execManrcvdone s
  | .manrcveror => Sys2Proof.Machine.execManrcveror s
  | .edgeseen => Sys2Proof.Machine.execEdgeseen s
  | .montick sample => Sys2Proof.Machine.execMontick sample s
  | .transmitmessage addr data cb opt => Sys2Proof.Machine.execTransmitmessage addr data cb opt s
  | .getstatusdesc status => Sys2Proof.Machine.execGetstatusdesc status s
  | .xmtIdleStart => Sys2Proof.Machine.execXmtIdleStart s
  | .xmtWaitXmtDoneManxmtdone => Sys2Proof.Machine.execXmtWaitXmtDoneManxmtdone s
  | .xmtWaitXmtDoneManrcveror => Sys2Proof.Machine.execXmtWaitXmtDoneManrcveror s
  | .xmtWaitXmtDoneTimeout => Sys2Proof.Machine.execXmtWaitXmtDoneTimeout s
  | .xmtWaitXmtEchoManrcvdone => Sys2Proof.Machine.execXmtWaitXmtEchoManrcvdone s
  | .xmtWaitXmtEchoManrcveror => Sys2Proof.Machine.execXmtWaitXmtEchoManrcveror s
  | .xmtWaitXmtEchoTimeout => Sys2Proof.Machine.execXmtWaitXmtEchoTimeout s
  | .xmtWaitRcvDoneEdgeseen => Sys2Proof.Machine.execXmtWaitRcvDoneEdgeseen s
  | .xmtWaitRcvDoneManrcvdone => Sys2Proof.Machine.execXmtWaitRcvDoneManrcvdone s
  | .xmtWaitRcvDoneManrcveror => Sys2Proof.Machine.execXmtWaitRcvDoneManrcveror s
  | .xmtWaitRcvDoneTimeout => Sys2Proof.Machine.execXmtWaitRcvDoneTimeout s
  | .xmtWaitFrameTimeTimeout => Sys2Proof.Machine.execXmtWaitFrameTimeTimeout s
  | .xmtWaitBackFrameTimeTimeout => Sys2Proof.Machine.execXmtWaitBackFrameTimeTimeout s
  | .ctlIdleMsgenq => Sys2Proof.Machine.execCtlIdleMsgenq s
  | .ctlWaitMsgenq => Sys2Proof.Machine.execCtlWaitMsgenq s
  | .ctlWaitXactdone => Sys2Proof.Machine.execCtlWaitXactdone s
  | .xmtDefault st ev => Sys2Proof.Machine.execXmtDefault st ev s
  | .ctlDefault st ev => Sys2Proof.Machine.execCtlDefault st ev s
  | .ansLevel addr data => Sys2Proof.Machine.execAnsLevel addr data s
  | .ansSpcMaybeCompare => Sys2Proof.Machine.execAnsSpcMaybeCompare s
  | .ansSpcMaybeWriteMemoryLocation data => Sys2Proof.Machine.execAnsSpcMaybeWriteMemoryLocation data s
  | .ansSpcRequiredQueryShortAddr => Sys2Proof.Machine.execAnsSpcRequiredQueryShortAddr s
  | .ansSpcRequiredVerifyShortAddr data => Sys2Proof.Machine.execAnsSpcRequiredVerifyShortAddr data s
  | .ansSpcNoneInitialise data => Sys2Proof.Machine.execAnsSpcNoneInitialise data s
  | .ansSpcNoneRandomise data => Sys2Proof.Machine.execAnsSpcNoneRandomise data s
  | .ansSpcNoneWithdraw data => Sys2Proof.Machine.execAnsSpcNoneWithdraw data s
  | .ansSpcNoneSearchaddrh data => Sys2Proof.Machine.execAnsSpcNoneSearchaddrh data s
  | .ansSpcNoneSearchaddrm data => Sys2Proof.Machine.execAnsSpcNoneSearchaddrm data s
  | .ansSpcNoneSearchaddrl data => Sys2Proof.Machine.execAnsSpcNoneSearchaddrl data s
  | .ansSpcNoneProgramShortAddr data => Sys2Proof.Machine.execAnsSpcNoneProgramShortAddr data s
  | .ansSpcNoneEnableDeviceType data => Sys2Proof.Machine.execAnsSpcNoneEnableDeviceType data s
  | .ansSpcNoneDtr data => Sys2Proof.Machine.execAnsSpcNoneDtr data s
  | .ansSpcNoneDtr1 data => Sys2Proof.Machine.execAnsSpcNoneDtr1 data s
  | .ansSpcNoneDtr2 data => Sys2Proof.Machine.execAnsSpcNoneDtr2 data s
  | .ansQRequiredQueryStatus addr => Sys2Proof.Machine.execAnsQRequiredQueryStatus addr s
  | .ansQRequiredVersionMinlevel addr data => Sys2Proof.Machine.execAnsQRequiredVersionMinlevel addr data s
  | .ansQRequiredContentDtr1Dtr2 addr data => Sys2Proof.Machine.execAnsQRequiredContentDtr1Dtr2 addr data s
  | .ansQRequiredActualLevelFadeRate addr data => Sys2Proof.Machine.execAnsQRequiredActualLevelFadeRate addr data s
  | .ansQRequiredSceneLevelReadMemory addr data => Sys2Proof.Machine.execAnsQRequiredSceneLevelReadMemory addr data s
  | .ansQRequiredGearTypeExtVersion addr data => Sys2Proof.Machine.execAnsQRequiredGearTypeExtVersion addr data s
  | .ansQMaybeGearPresentMissingShort addr data => Sys2Proof.Machine.execAnsQMaybeGearPresentMissingShort addr data s
  | .ansQMaybePowerFailure addr => Sys2Proof.Machine.execAnsQMaybePowerFailure addr s
  | .ansDefault addr data => Sys2Proof.Machine.execAnsDefault addr data s
  | .rptInitialise data => Sys2Proof.Machine.execRptInitialise data s
  | .rptRandomise => Sys2Proof.Machine.execRptRandomise s
  | .rptRangeResetEnableWriteMemoryBroadcast data => Sys2Proof.Machine.execRptRangeResetEnableWriteMemoryBroadcast data s
  | .rptRangeResetEnableWriteMemoryIndividual addr data => Sys2Proof.Machine.execRptRangeResetEnableWriteMemoryIndividual addr data s
  | .rptRangeRefsyspowerSelectDimCurveBroadcast data => Sys2Proof.Machine.execRptRangeRefsyspowerSelectDimCurveBroadcast data s
  | .rptRangeRefsyspowerSelectDimCurveIndividual addr data => Sys2Proof.Machine.execRptRangeRefsyspowerSelectDimCurveIndividual addr data s
  | .rptDefault addr data => Sys2Proof.Machine.execRptDefault addr data s
  | .stOk => Sys2Proof.Machine.execStOk s
  | .stRcvOk => Sys2Proof.Machine.execStRcvOk s
  | .stRcvErr => Sys2Proof.Machine.execStRcvErr s
  | .stXmtTimeout => Sys2Proof.Machine.execStXmtTimeout s
  | .stBusErr => Sys2Proof.Machine.execStBusErr s
  | .stEchoErr => Sys2Proof.Machine.execStEchoErr s
  | .stRcvTimeout => Sys2Proof.Machine.execStRcvTimeout s
  | .stBusCol => Sys2Proof.Machine.execStBusCol s
  | .stIllOp => Sys2Proof.Machine.execStIllOp s
  | .stBusMonBad => Sys2Proof.Machine.execStBusMonBad s

end Sys2Proof.Machine
end

