-- ==== Sys2Proof/Machine/Script.lean ====
section
/-! DEFINITION. The lines of a stimulus script (R107, R108): the scheduler's dispatches, the steps of the environment under
the contracts R278 to R281, and the pseudo-operations; and the builders of the lines that are operations of the
opcode table. -/

namespace Sys2Proof.Machine

/-! ### The scheduler (R70, R71, R230) -/

/-- `DISPATCH CTL`: the head of `ctlq` is consumed and dispatched. -/
def dispatchCtlHead (s : State) : Result :=
  match s.ctlq with
  | [] => .refused .nothingToDispatch
  | e :: rest => exec (ctlEvtInstr e) { s with ctlq := rest }

/-- `DISPATCH XMT`: the head of `xmtq` is consumed and dispatched. -/
def dispatchXmtHead (s : State) : Result :=
  match s.xmtq with
  | [] => .refused .nothingToDispatch
  | e :: rest => exec (xmtEvtInstr e) { s with xmtq := rest }

/-! ### The Manual Transport and the timer (R107, R277 to R281; their order is free, notes/assumptions/11.md) -/

/-- An event appended to `xmtq` by the environment: no action of the block. -/
def envPostXmt (e : XmtEvt) (s : State) : State := { s with xmtq := s.xmtq ++ [e] }

/-- `XMTDONE`. -/
def runXmtDone (s : State) : Result :=
  if s.txBusy = false ∧ s.params.transmitContract = true then .refused .transmitIdle
  else .next (envPostXmt .manxmtdone { s with txBusy := false })

/-- `RCVDONE`: the bytes go to the armed buffer, at most as many as armed.  Under R280 an echo is not received before its
frame has been sent. -/
def runRcvDone (bytes : List Byte) (s : State) : Result :=
  match s.rxArmed with
  | none =>
    if s.params.receiveContract then .refused .receiveIdle else .next (envPostXmt .manrcvdone s)
  | some (b, n) =>
    if bytes.length ≠ n ∧ s.params.receiveContract = true then .refused .receiveLength
    else if b = .echo ∧ s.txBusy = true ∧ s.params.echoOrderContract = true then .refused .echoBeforeTransmitDone
    else .next (envPostXmt .manrcvdone (storeBytes b 0 (bytes.take n) { s with rxArmed := none }))

/-- `RCVERR`: how many bytes were stored before the error is not said (R66). -/
def runRcvErr (s : State) : Result :=
  match s.rxArmed with
  | none =>
    if s.params.receiveContract then .refused .receiveIdle else .next (envPostXmt .manrcveror s)
  | some (b, _) => .next (envPostXmt .manrcveror (surrender b { s with rxArmed := none }))

/-- `EDGE`. -/
def runEdge (s : State) : Result :=
  if s.rxArmed = none ∧ s.params.receiveContract = true then .refused .receiveIdle
  else .next (envPostXmt .edgeseen s)

/-- `EXPIRE`. -/
def runExpire (s : State) : Result :=
  if s.tmrArmed = false ∧ s.params.timerContract = true then .refused .timerIdle
  else .next (envPostXmt .timeout { s with tmrArmed := false })

/-! ### Lines that are operations of the opcode table -/

/-- `TX addr data [cb] [opt]`.  A line without `cb` has no callback.  A line without `opt` (R107, `-` in R231's example)
gives the message one fixed value of `OPT_T`, the empty handle by default, since R95 has no absent option
(notes/assumptions/7.md, DESIGN CHOICE). -/
def txLine (p : Params) (addr data : Byte) (cb : Option CbT) (opt : Option OptT) : Line :=
  .op .evt8 (encode p.opc (.transmitmessage addr data cb (opt.getD (someHandle p.optT))))

/-- `TICK bad` (`true`) or `TICK good`. -/
def tickLine (sample : Bool) : Line := .op .evt8 (encode defaultOpc (.montick sample))

/-- `DESC n`. -/
def descLine (n : Byte) : Line := .op .evt8 (encode defaultOpc (.getstatusdesc n))

/-- An operation of the opcode table as a line, under the constants `o`. -/
def instrLine (o : Opc) (i : Instr) : Line := .op (formatOf i) (encode o i)

/-- An operation given by its bytes: decoded and executed; bytes after it are not read. -/
def runOp (f : Format) (bytes : List Byte) (s : State) : Result :=
  match decode s.params.opc f bytes with
  | .ok i _ => exec i s
  | .error e => .refused (.undecodable e)

/-! ### Pseudo-operations (R108) -/

/-- Lines put before the rest of the script. -/
def expand (ls : List Line) (s : State) : State := { s with script := ls ++ s.script }

/-- `RUN`: one dispatch, CTL first, and `RUN` again; done when both queues are empty. -/
def runRun (s : State) : Result :=
  if s.ctlq ≠ [] then dispatchCtlHead (expand [.run] s)
  else if s.xmtq ≠ [] then dispatchXmtHead (expand [.run] s)
  else .next s

/-- One line, in the state whose script holds the lines after it. -/
def runLine (l : Line) (s : State) : Result :=
  match l with
  | .op f bytes => runOp f bytes s
  | .dispatchCtl => dispatchCtlHead s
  | .dispatchXmt => dispatchXmtHead s
  | .xmtDone => runXmtDone s
  | .rcvDone bytes => runRcvDone bytes s
  | .rcvErr => runRcvErr s
  | .edge => runEdge s
  | .expire => runExpire s
  | .debug on => .next { s with debugMode := on }
  | .run => runRun s
  | .echoOk => .next (expand [.xmtDone, .rcvDone (frameBytes s), .run] s)
  | .echoBad b0 b1 => .next (expand [.xmtDone, .rcvDone [b0, b1], .run] s)
  | .respond v => .next (expand [.rcvDone [v], .run] s)
  | .waitOut => .next (expand [.expire, .run] s)
  | .bad n => .next (expand (List.replicate n (tickLine true)) s)
  | .good n => .next (expand (List.replicate n (tickLine false)) s)

/-! ### The opcode table's words as lines -/

/-- The line an opcode-table word is offered as. -/
def tableLine (nbits w : Nat) : Line := .op (tableFormat nbits w) (tableBytes nbits w)

/-- A dispatch key holds the state it is dispatched in (R101): the state register its state field names is set to it.
For every other format nothing is set. -/
def selectKeyState (nbits w : Nat) (s : State) : State :=
  match tableFormat nbits w with
  | .xt12 =>
    match ctlEvtOf (byteAt w 0) with
    | some _ =>
      match ctlStateOf (byteAt w 1) with
      | some c => { s with ctlState := c }
      | none => s
    | none =>
      match xmtStateOf (byteAt w 1) with
      | some x => { s with xmtState := x }
      | none => s
  | _ => s

end Sys2Proof.Machine
end

