-- ==== Sys2Proof/Machine/Step.lean ====
section
/-! DEFINITION. One step: the next line of the script is offered (R72: which agent steps is the environment's choice, and the
script holds it).  With no line left no agent steps, and the machine holds its state (R23). -/

namespace Sys2Proof.Machine

/-- One step. -/
def step (s : State) : Host.Outcome State Fault Refusal :=
  match s.script with
  | [] => .next s
  | l :: rest => runLine l { s with script := rest }

/-- `s` with an opcode-table word as the next thing offered, in the state its key names if it is a dispatch key
(notes/assumptions/5.md). -/
def State.withFetchWord (s : State) (nbits w : Nat) : State :=
  expand [tableLine nbits w] (selectKeyState nbits w s)

end Sys2Proof.Machine
end

