-- ==== Sys2Proof/Safety.lean ====
section
/-! DEFINITION. What counts as a safe run, in the terms the statements use: the contracts of the environment, each a named
hypothesis on one line, on a script or on a run (R274 to R281), and the invariants of the machine that the spec
states or derives (R46, R164, R185, R199, R200, R238, R239, R262). -/

namespace Sys2Proof.Machine

/-- A line that feeds an event into a machine behind the scheduler's back: a direct call of an entry point with an
event code, or a dispatch key offered by itself. -/
def feedsEvent : Line → Bool
  | .op .evt8 (c :: _) => (ctlEvtOf c).isSome || (xmtEvtOf c).isSome
  | .op .xt12 _ => true
  | _ => false

/-- Whether the handles of a message are values of the opaque types in force (R8, R95). -/
def messageTyped (p : Params) (m : BusMessage) : Bool := m.cb.all (handleOfType p.cbT) && handleOfType p.optT m.opt

/-- A line that submits a message submits one whose handles are values of the opaque types (R8, R231). -/
def lineTyped (p : Params) (l : Line) : Prop :=
  ∀ f bytes rest addr data cb opt, l = .op f bytes → decode p.opc f bytes = .ok (.transmitmessage addr data cb opt) rest →
    messageTyped p (newMessage addr data cb opt) = true

/-- The host calls `TransmitMessage` with values of its own types `CB_T` and `OPT_T`. -/
def typedHost (s : State) : Prop := ∀ l ∈ s.script, lineTyped s.params l

/-- The host's contract (R276): it never posts events itself, so every event reaches a machine through its queue. -/
abbrev hostContract (s : State) : Prop := ∀ l ∈ s.script, feedsEvent l = false

/-! ### What the environment may offer in a state (R277 to R281) -/

/-- The transmit contract (R278): `MANXMTDONE` only while a transmission is in progress. -/
def transmitAllows (s : State) : Line → Bool
  | .xmtDone => s.txBusy
  | _ => true

/-- The receive contract (R279): a receive event only while a receive is armed, and `MANRCVDONE` after exactly as many
bytes as armed. -/
def receiveAllows (s : State) : Line → Bool
  | .rcvDone bytes => s.rxArmed.map Prod.snd == some bytes.length
  | .rcvErr => s.rxArmed.isSome
  | .edge => s.rxArmed.isSome
  | _ => true

/-- The echo ordering obligation (R280): no `MANRCVDONE` of an echo while its frame is still being sent, that is before
its `MANXMTDONE`. -/
def echoOrderAllows (s : State) : Line → Bool
  | .rcvDone _ => !(s.rxArmed.map Prod.fst == some RxBuf.echo && s.txBusy)
  | _ => true

/-- The timer contract (R281): an expiry only while the timer is armed.  (That arming and disarming withdraw a queued
expiry is `withdrawTimeouts`.) -/
def timerAllows (s : State) : Line → Bool
  | .expire => s.tmrArmed
  | _ => true

/-- What the environment may offer under the contracts that are in force.  Nothing else restricts it: which events occur,
when, and with which bytes is an oracle's choice (R277). -/
def environmentAllows (s : State) (l : Line) : Bool :=
  (!s.params.transmitContract || transmitAllows s l) && (!s.params.receiveContract || receiveAllows s l) &&
    (!s.params.echoOrderContract || echoOrderAllows s l) && (!s.params.timerContract || timerAllows s l)

/-! ### Runs, and the contracts that are about a whole run -/

/-- A run: before every step the environment may put lines in front of the script, and the step is taken. -/
def isRun (put : Nat → List Line) (run : Nat → State) : Prop :=
  ∀ n, step (expand (put n) (run n)) = .next (run (n + 1))

/-- The line the `n`th step of a run takes, if any. -/
def offered (put : Nat → List Line) (run : Nat → State) (n : Nat) : Option Line := (put n ++ (run n).script).head?

/-- A contract on single lines, over a whole run. -/
def keeps (allows : State → Line → Bool) (put : Nat → List Line) (run : Nat → State) : Prop :=
  ∀ n l, offered put run n = some l → allows (run n) l = true

/-- R275: a non-empty queue is eventually served.  (First in first out, run to completion and no loss are the machine's
own: `DispatchTakesTheOldestEvent`.) -/
def schedulerContract (put : Nat → List Line) (run : Nat → State) : Prop :=
  (∀ n, (run n).ctlq ≠ [] → ∃ m, n ≤ m ∧
    (offered put run m = some .dispatchCtl ∨ offered put run m = some .run)) ∧
  ∀ n, (run n).xmtq ≠ [] → ∃ m, n ≤ m ∧ ((run m).xmtq = [] ∨ offered put run m = some .dispatchXmt ∨
    (offered put run m = some .run ∧ (run m).ctlq = []))

/-- R276 over a run: the lines put in front feed no event into a machine, and the monitor's tick comes again and again. -/
def hostDuties (put : Nat → List Line) (run : Nat → State) : Prop :=
  keeps (fun _ l => !feedsEvent l) put run ∧
  ∀ n, ∃ m bytes, n ≤ m ∧ offered put run m = some (.op .evt8 (0x30#8 :: bytes))

/-- R278 over a run. -/
def transmitContractKept : (Nat → List Line) → (Nat → State) → Prop := keeps transmitAllows

/-- R279 over a run. -/
def receiveContractKept : (Nat → List Line) → (Nat → State) → Prop := keeps receiveAllows

/-- R280 over a run. -/
def echoOrderKept : (Nat → List Line) → (Nat → State) → Prop := keeps echoOrderAllows

/-- R281 over a run: no expiry of an idle timer, and an arming that is neither turned off nor replaced eventually
expires. -/
def timerContractKept (put : Nat → List Line) (run : Nat → State) : Prop :=
  keeps timerAllows put run ∧
  ∀ n, (run n).tmrArmed = true → ∃ m, n ≤ m ∧ (offered put run m = some .expire ∨
    ∃ acts, (run (m + 1)).trace = (run m).trace ++ acts ∧ (.timerOff ∈ acts ∨ ∃ ms, .timerOn ms ∈ acts))

/-! ### Invariants -/

/-- R164: the counter never passes the threshold, and the flag is set exactly at the threshold. -/
abbrev monitorInv (s : State) : Prop :=
  s.monCnt ≤ s.params.monThreshold ∧ (s.monBad = true ↔ s.monCnt = s.params.monThreshold)

/-- One for a state of XMT other than Idle. -/
def xmtBusy : XmtState → Nat
  | .idle => 0
  | .waitXmtDone => 1
  | .waitXmtEcho => 1
  | .waitRcvDone => 1
  | .waitFrameTime => 1
  | .waitBackFrameTime => 1

/-- One while CTL waits. -/
def ctlBusy : CtlState → Nat
  | .idle => 0
  | .wait => 1

/-- How many transactions are in flight: a pending `START`, a busy XMT, or a pending `XACTDONE` each stand for
one (R239). -/
def inFlight (s : State) : Nat := s.xmtq.count .start + xmtBusy s.xmtState + s.ctlq.count .xactdone

/-- R239, R46(b), R21, R199(e): one transaction is in flight exactly while CTL waits, and never more than one. -/
abbrev flightInv (s : State) : Prop := inFlight s = ctlBusy s.ctlState

/-- R238: with `CTL_BUSY_ENQ = drop` there are at least as many records in `q` as `MSGENQ` events in `ctlq`. -/
abbrev pendingInv (s : State) : Prop := s.params.ctlBusyEnq = .drop → s.ctlq.count .msgenq ≤ s.q.length

/-- R38: the Message Queue never holds more than `QDEPTH` records. -/
abbrev depthInv (s : State) : Prop := s.q.length ≤ s.params.qdepth

/-- R200: every state but Idle has its timer armed, or the expiry already queued, so none can be waited in for
ever. -/
abbrev timerInv (s : State) : Prop := s.xmtState ≠ .idle → s.tmrArmed = true ∨ .timeout ∈ s.xmtq

/-- R185, R192: no transaction leaves Idle with `ANS_ERROR`, and WaitRcvDone is entered only when an answer is
expected (R170). -/
abbrev answerInv (s : State) : Prop :=
  (s.xmtState ≠ .idle → s.ans ≠ .error) ∧ (s.xmtState = .waitRcvDone → answerExpected s.ans = true)

/-- R145, R315: with the default constants a frame still to be repeated expects no answer. -/
abbrev repeatInv (s : State) : Prop :=
  s.params.opc = defaultOpc → s.xmtState ≠ .idle → s.rpt = true → s.ans = .none

/-- R262: `ST_RCVERR` is assigned by no rule, so no message holds it. -/
abbrev statusInv (s : State) : Prop :=
  s.cur.status ≠ .rcvErr ∧ (∀ m ∈ s.q, m.status ≠ .rcvErr) ∧ ∀ m ∈ s.delivered, m.status ≠ .rcvErr

/-- R281: one arming yields at most one `TIMEOUT`, and a queued one belongs to the last arming: an armed timer and a
queued expiry exclude each other. -/
abbrev expiryInv (s : State) : Prop :=
  s.params.timerContract = true → s.xmtq.count .timeout + s.tmrArmed.toNat ≤ 1

/-- R64: a receive is armed for the echo of a whole frame or for exactly one response. -/
abbrev receiveInv (s : State) : Prop :=
  s.rxArmed = none ∨ s.rxArmed = some (.echo, s.params.frameLen) ∨ s.rxArmed = some (.rspbuf, s.params.rspLen)

/-- R8, R24, R95: every callback in the block is a value of `CB_T` and every option one of `OPT_T`. -/
abbrev handleInv (s : State) : Prop :=
  messageTyped s.params s.cur = true ∧ (∀ m ∈ s.q, messageTyped s.params m = true) ∧
    ∀ m ∈ s.delivered, messageTyped s.params m = true

/-- How many messages the block holds or has delivered: in `q`, in `cur` while CTL waits, and delivered (R80: a
record is in exactly one of these places at a time). -/
def messageCount (s : State) : Nat := s.q.length + ctlBusy s.ctlState + s.delivered.length

/-- How far XMT is from the end of its transaction, in transitions along the longest path (R170, R200): a frame
still to be sent again counts its second pass. -/
def xmtRank (s : State) : Nat :=
  match s.xmtState with
  | .idle => 0
  | .waitFrameTime => 1 + 4 * s.rpt.toNat
  | .waitBackFrameTime => 1
  | .waitRcvDone => 2 + 4 * s.rpt.toNat
  | .waitXmtEcho => 3 + 4 * s.rpt.toNat
  | .waitXmtDone => 4 + 4 * s.rpt.toNat

/-! ### What the document states of XMT (R199), proved in Laws/Properties.lean -/

/-- How often `ManTransmit` was called: the count by which R194 and the document's §8 verify a repeat. -/
def transmissions (s : State) : Nat :=
  s.trace.countP (fun a => match a with | .manTransmit _ _ => true | _ => false)

/-- R199(a), echo comparison (R185): an echo that is byte-identical to the frame takes XMT past WaitXmtEcho without an error;
a single differing byte anywhere forces `ST_ECHOERR` and ends the transaction in Idle. -/
def echoComparison : Prop :=
  ∀ s t : State, s.xmtState = .waitXmtEcho → exec .manrcvdone s = .next t →
    ((∀ p ∈ echoPairs.take s.params.frameLen, memRead p.1 s = memRead p.2 s) →
      t.xmtState = .waitRcvDone ∧ t.cur.status = .rcvTimeout ∨ t.xmtState = .waitFrameTime ∧ t.cur.status = .ok) ∧
    ((∃ p ∈ echoPairs.take s.params.frameLen, memRead p.1 s ≠ memRead p.2 s) →
      t.xmtState = .idle ∧ t.cur.status = .echoErr)

/-- R199(b), idempotence of fail-fast (R178): on a bad bus a `START` in Idle always yields `ST_BUSMONBAD` and one report and
calls no other collaborator; a second one changes nothing but to report again. -/
def failFastIdempotent : Prop :=
  ∀ s : State, s.monBad = true → s.xmtState = .idle →
    let reported (s : State) : State := { s with
      cur := { s.cur with status := .busMonBad }
      ctlq := s.ctlq ++ [.xactdone]
      trace := s.trace ++ [.postCtl .xactdone] }
    exec .start s = .next (reported s) ∧
    exec .start (reported s) = .next (reported (reported s)) ∧ (reported (reported s)).cur = (reported s).cur

/-- R199(c), repeat correctness (R194): a transaction that starts sends its frame once and latches whether it is to be
repeated; after that each transmission uses up the repeat flag, which only a garbled answer clears without one; the
second transmission is of the current message's frame; and the transaction leaves WaitFrameTime for Idle only with the
flag used up.  So a frame to be repeated is sent exactly twice before that. -/
def repeatCorrectness : Prop :=
  ∀ (s t : State) (e : XmtEvt), exec (xmtEvtInstr e) s = .next t →
    (s.xmtState = .idle → t.xmtState ≠ .idle →
      transmissions t = transmissions s + 1 ∧ t.rpt = classifyRepeat s.params.opc s.cur.addr s.cur.data) ∧
    (s.xmtState ≠ .idle → ¬(s.xmtState = .waitRcvDone ∧ e = .manrcveror) →
      transmissions t + t.rpt.toNat = transmissions s + s.rpt.toNat) ∧
    (s.xmtState = .waitFrameTime → e = .timeout → s.rpt = true →
      t.xmtState = .waitXmtDone ∧ .manTransmit (frameBytes s) s.params.frameLen ∈ t.trace ∧
        transmissions t = transmissions s + 1 ∧ t.rpt = false ∧ frameBytes t = frameBytes s) ∧
    (s.xmtState = .waitFrameTime → t.xmtState = .idle → s.rpt = false)

/-- R199(d), surfaced, never silently retried (R182, R183, R185 to R187, R191, R192): a timeout or an integrity failure sends
nothing, and it ends the transaction with one report or, for a garbled answer, goes into the gap with the repeat flag
cleared, from which nothing is sent again. -/
def failuresSurfaced : Prop :=
  ∀ (s t : State) (e : XmtEvt), exec (xmtEvtInstr e) s = .next t →
    ((s.xmtState, e) ∈
        [(XmtState.waitXmtDone, XmtEvt.manrcveror), (.waitXmtDone, .timeout), (.waitXmtEcho, .manrcveror),
          (.waitXmtEcho, .timeout), (.waitRcvDone, .timeout)] ∨
        (s.xmtState = .waitXmtEcho ∧ e = .manrcvdone ∧ echoMatches s = false) →
      transmissions t = transmissions s ∧ t.xmtState = .idle ∧ t.ctlq = s.ctlq ++ [.xactdone]) ∧
    (s.xmtState = .waitRcvDone ∧ e = .manrcveror →
      transmissions t = transmissions s ∧ t.xmtState = .waitFrameTime ∧ t.rpt = false)

/-- R199(e), invisible to the caller: a `START` dispatched in Idle stands for exactly one `XACTDONE`, posted or owed while XMT
is busy, whether or not the frame is repeated; no other event posts or owes one more. -/
def oneReportPerStart : Prop :=
  ∀ (s t : State) (e : XmtEvt), exec (xmtEvtInstr e) s = .next t →
    xmtBusy t.xmtState + t.ctlq.count .xactdone =
      xmtBusy s.xmtState + s.ctlq.count .xactdone + if s.xmtState = .idle ∧ e = .start then 1 else 0

/-- R199: the properties of XMT that the document states, (a) to (e). -/
def xmtProperties : Prop :=
  echoComparison ∧ failFastIdempotent ∧ repeatCorrectness ∧ failuresSurfaced ∧ oneReportPerStart

end Sys2Proof.Machine
end

