-- ==== Sys2Proof/Certificates/Slice0/Obligations.lean ====
section
/-! DEFINITION. The statements for the provers.  Each docstring names the rule of spec/ a statement formalises, or says that
it rests on a choice of the model and names the log entry.  A statement about an event covers both of its
operations: the EVT8 event and the XT12 row of the same pair. -/

section

open Sys2Proof Sys2Proof.Machine

/-! ### Encodings -/

/-- Decoding the encoding of a well-formed operation gives it back, whatever bytes follow (R90, R100, R101, R104; the byte
layout of keys, status codes and call operands is the model's, notes/assumptions/6.md). -/
def Obligations.DecodeInvertsEncode : Prop :=
  ∀ (o : Opc) (i : Instr) (rest : List Byte), wellFormed o i = true →
    decode o (formatOf i) (encode o i ++ rest) = .ok i rest

/-- What the decoder reads is well-formed, of the format it was read in, and is encoded by exactly the bytes read: every
frame and every code has one meaning in its format (R101, R109; layout: notes/assumptions/6.md). -/
def Obligations.DecodedIsCanonical : Prop :=
  ∀ (o : Opc) (f : Format) (bs rest : List Byte) (i : Instr), decode o f bs = .ok i rest →
    wellFormed o i = true ∧ formatOf i = f ∧ encode o i ++ rest = bs

/-- A few words written out from R98, R100, R101 and R104 decode to their operations (layout: notes/assumptions/6.md). -/
def Obligations.SampleWordsDecode : Prop :=
  decode defaultOpc .evt8 [0x10] = .ok .msgenq [] ∧
  decode defaultOpc .evt8 [0x25] = .ok .edgeseen [] ∧
  decode defaultOpc .evt8 [0x30, 0x01] = .ok (.montick true) [] ∧
  decode defaultOpc .xt12 [0x02, 0x23] = .ok .xmtWaitXmtEchoManrcvdone [] ∧
  decode defaultOpc .xt12 [0x01, 0x11] = .ok .ctlWaitXactdone [] ∧
  decode defaultOpc .answer [0x01, 0x90] = .ok (.ansQRequiredQueryStatus 0x01) [] ∧
  decode defaultOpc .answer [0xFF, 0x00] = .ok (.ansDefault 0xFF 0x00) [] ∧
  decode defaultOpc .again [0x0B, 0x20] = .ok (.rptRangeResetEnableWriteMemoryIndividual 0x0B 0x20) [] ∧
  decode defaultOpc .st4 [0x04] = .ok .stBusErr []

/-- R105, R100 to R104: bytes outside the listed codes are refused by name: a code that is no event, a key whose event field
names no event or whose state field names no state of that event's machine, a code that is no status.  Every forward
frame is accepted by both classifier functions.  The byte layout of keys, status codes and operands is the model's
(notes/assumptions/6.md): a state or status byte of 16 or more names none, an operand byte outside it is refused, and so is every proper prefix of an encoding. -/
def Obligations.ReservedCodesRefused : Prop :=
  ∀ (o : Opc) (rest : List Byte),
    (∀ c : Byte, c ∉ [0x10#8, 0x11#8, 0x20#8, 0x21#8, 0x22#8, 0x23#8, 0x24#8, 0x25#8, 0x30#8, 0x40#8, 0x41#8] →
      decode o .evt8 (c :: rest) = .error (.unknownEvent c)) ∧
    (∀ st ev : Byte, ev ∉ [0x10#8, 0x11#8, 0x20#8, 0x21#8, 0x22#8, 0x23#8, 0x24#8, 0x25#8] ∨
        ev ∈ [0x10#8, 0x11#8] ∧ 2 ≤ st.toNat ∨ 6 ≤ st.toNat →
      decode o .xt12 (st :: ev :: rest) = .error (.reservedKey st ev)) ∧
    (∀ c : Byte, 10 ≤ c.toNat → decode o .st4 (c :: rest) = .error (.reservedStatus c)) ∧
    (∀ a d : Byte, (∃ i, decode o .answer (a :: d :: rest) = .ok i rest) ∧
      ∃ i, decode o .again (a :: d :: rest) = .ok i rest) ∧
    (∀ v : Byte, 2 ≤ v.toNat →
      decode o .evt8 (0x30#8 :: v :: rest) = .error (.badOperand v) ∧
      ∀ a d : Byte,
        decode o .evt8 (0x40#8 :: a :: d :: v :: rest) = .error (.badOperand v) ∧
        (∀ h : List Byte,
          decode o .evt8 (0x40#8 :: a :: d :: 1#8 :: (h.flatMap (fun b => [1#8, b]) ++ v :: rest)) =
            .error (.badOperand v)) ∧
        ∀ (cb : Option CbT) (h : List Byte),
          decode o .evt8 (0x40#8 :: a :: d :: (callbackBytes cb ++ (h.flatMap (fun b => [1#8, b]) ++ v :: rest))) =
            .error (.badOperand v)) ∧
    ∀ (i : Instr) (k : Nat), k < (encode o i).length →
      decode o (formatOf i) ((encode o i).take k) = .error .truncated

/-! ### The classifier -/

/-- R131 to R138: `ClassifyAnswer`, rule by rule in listed order, for any opcode constants. -/
def Obligations.ClassifyAnswerByRules : Prop :=
  ∀ (o : Opc) (addr data : Byte) (dbg : Bool),
    let maybeSpecial := (addr = o.spcCompare ∧ data = 0) ∨ addr = o.spcWriteMemoryLocation
    let requiredSpecial := (addr = o.spcQueryShortAddr ∧ data = 0) ∨ addr = o.spcVerifyShortAddr
    let silentSpecial :=
      addr ∈ [o.spcInitialise, o.spcRandomise, o.spcWithdraw, o.spcSearchaddrh, o.spcSearchaddrm, o.spcSearchaddrl,
        o.spcProgramShortAddr, o.spcEnableDeviceType, o.spcDtr, o.spcDtr1, o.spcDtr2]
    let requiredQuery :=
      data = o.cmdQueryStatus ∨
      (o.cmdQueryVersionNumber ≤ data ∧ data ≤ o.cmdQueryPhysMinLevel) ∨
      (o.cmdQueryContentDtr1 ≤ data ∧ data ≤ o.cmdQueryContentDtr2) ∨
      (o.cmdQueryActualLevel ≤ data ∧ data ≤ o.cmdQueryFadeRate) ∨
      (o.cmdQuerySceneLevel ≤ data ∧ data ≤ o.cmdReadMemoryLocation) ∨
      (o.cmdQueryGearType ≤ data ∧ data ≤ o.cmdQueryExtVersionNumber)
    let maybeQuery :=
      (o.cmdQueryControlGearPresent ≤ data ∧ data ≤ o.cmdQueryMissingShortAddr) ∨ data = o.cmdQueryPowerFailure
    let command := addr.getLsbD 0 = true
    let allowed := addr.getLsbD 7 = false ∨ dbg = true
    (¬command → classifyAnswer o addr data dbg = .none) ∧
    (command → maybeSpecial → classifyAnswer o addr data dbg = .maybe) ∧
    (command → ¬maybeSpecial → requiredSpecial → classifyAnswer o addr data dbg = .required) ∧
    (command → ¬maybeSpecial → ¬requiredSpecial → silentSpecial → classifyAnswer o addr data dbg = .none) ∧
    (command → ¬maybeSpecial → ¬requiredSpecial → ¬silentSpecial → requiredQuery →
      (allowed → classifyAnswer o addr data dbg = .required) ∧
      (¬allowed → classifyAnswer o addr data dbg = .error)) ∧
    (command → ¬maybeSpecial → ¬requiredSpecial → ¬silentSpecial → ¬requiredQuery → maybeQuery →
      (allowed → classifyAnswer o addr data dbg = .maybe) ∧
      (¬allowed → classifyAnswer o addr data dbg = .error)) ∧
    (command → ¬maybeSpecial → ¬requiredSpecial → ¬silentSpecial → ¬requiredQuery → ¬maybeQuery →
      classifyAnswer o addr data dbg = .none)

/-- R139 to R143: a frame is repeated exactly under the three documented rules. -/
def Obligations.ClassifyRepeatByRules : Prop :=
  ∀ (o : Opc) (addr data : Byte),
    classifyRepeat o addr data = true ↔
      addr = o.spcInitialise ∨
      (data = 0 ∧ addr = o.spcRandomise) ∨
      ((addr = 0xFF ∨ (addr.getLsbD 0 = true ∧ addr.getLsbD 7 = false)) ∧
        ((o.cmdReset ≤ data ∧ data ≤ o.cmdEnableWriteMemory) ∨
          (o.cmdReferenceSystemPower ≤ data ∧ data ≤ o.cmdSelectDimmingCurve)))

/-- R144(a), (b), inferences of the spec: no frame to an individual address is refused, and with the default constants a
mandatory query to a group or to broadcast is refused outside debug mode. -/
def Obligations.RefusalsByAddress : Prop :=
  (∀ (o : Opc) (addr data : Byte) (dbg : Bool), addr.getLsbD 7 = false → classifyAnswer o addr data dbg ≠ .error) ∧
  ∀ addr data : Byte,
    ((0x81#8 ≤ addr ∧ addr ≤ 0x9F#8 ∧ addr.getLsbD 0 = true) ∨ addr = 0xFF#8) →
    qRequired defaultOpc data = true → classifyAnswer defaultOpc addr data false = .error

/-- R145, derived in the spec: with the default constants a frame to be repeated expects no answer. -/
def Obligations.RepeatedFrameExpectsNoAnswer : Prop :=
  ∀ (addr data : Byte) (dbg : Bool),
    classifyRepeat defaultOpc addr data = true → classifyAnswer defaultOpc addr data dbg = .none

/-- R146, R282: debug mode refuses nothing and changes nothing but a refusal. -/
def Obligations.DebugModeOnlyLiftsRefusals : Prop :=
  ∀ (o : Opc) (addr data : Byte),
    classifyAnswer o addr data true ≠ .error ∧
    (classifyAnswer o addr data false ≠ .error → classifyAnswer o addr data true = classifyAnswer o addr data false) ∧
    (classifyAnswer o addr data false = .error →
      classifyAnswer o addr data true = if qRequired o data then .required else .maybe)

/-- R285: a query is refused exactly when its address is not individual and the block is not in debug mode. -/
def Obligations.QueryAccessCheck : Prop :=
  ∀ (o : Opc) (addr data : Byte) (dbg : Bool),
    isCmd addr = true → spcMaybe o addr data = false → spcRequired o addr data = false → spcNone o addr = false →
    (qRequired o data = true ∨ qMaybe o data = true) →
    (classifyAnswer o addr data dbg = .error ↔ queryAllowed addr dbg = false)

/-- The 25 operations `ANS.*` and the 7 operations `RPT.*` complete: each row, on a frame that selects it, returns what
`ClassifyAnswer` or `ClassifyRepeat` gives that frame and writes no flag and no other state (R109, R131, R139; that a
row is an operation whose result is returned is the model's choice, notes/assumptions/5.md). -/
def Obligations.ClassifierRowsReturnTheirResult : Prop :=
  ∀ (s : State) (i : Instr), wellFormed s.params.opc i = true →
    let addr := (frameOf s.params.opc i).1
    let data := (frameOf s.params.opc i).2
    (∀ r : AnsRow, answerRowOf i = some r →
      exec i s = .next { s with returned := .answer (classifyAnswer s.params.opc addr data s.debugMode) }) ∧
    ∀ r : RptRow, repeatRowOf i = some r →
      exec i s = .next { s with returned := .again (classifyRepeat s.params.opc addr data) }

/-! ### The bus monitor -/

/-- R161: the result and the frame of `MONTICK`.  (That the sample taken stands in the action trace:
notes/assumptions/10.md.) -/
def Obligations.MonitorTick : Prop :=
  ∀ s : State,
    (exec (.montick false) s =
      .next { s with monCnt := 0#4, monBad := false, trace := s.trace ++ [.getBusState false] }) ∧
    (s.monCnt < s.params.monThreshold → s.monCnt + 1#4 ≠ s.params.monThreshold →
      exec (.montick true) s =
        .next { s with monCnt := s.monCnt + 1#4, trace := s.trace ++ [.getBusState true] }) ∧
    (s.monCnt < s.params.monThreshold → s.monCnt + 1#4 = s.params.monThreshold →
      exec (.montick true) s =
        .next { s with monCnt := s.monCnt + 1#4, monBad := true, trace := s.trace ++ [.getBusState true] }) ∧
    (s.monCnt = s.params.monThreshold →
      exec (.montick true) s = .next { s with monBad := true, trace := s.trace ++ [.getBusState true] }) ∧
    (s.params.monThreshold < s.monCnt →
      exec (.montick true) s = .next { s with trace := s.trace ++ [.getBusState true] })

/-- R164: every step keeps the monitor's invariants. -/
def Obligations.MonitorInvariantKept : Prop :=
  ∀ s t : State, s.params.wf → monitorInv s → step s = .next t → monitorInv t

/-- R33, R43: only the monitor's tick writes `BusHealth`, and nothing writes the parameters. -/
def Obligations.BusHealthHasOneWriter : Prop :=
  ∀ s t : State, step s = .next t →
    t.params = s.params ∧
    (t.monCnt ≠ s.monCnt ∨ t.monBad ≠ s.monBad →
      ∃ bytes rest, s.script = .op .evt8 (0x30#8 :: bytes) :: rest ∧ t.xmtState = s.xmtState ∧ t.ctlState = s.ctlState)

/-! ### XMT -/

/-- R177, R178, R179, R173: `START` in Idle.  The content of the echo buffer after arming is unspecified (R66), so it and the
count of free values drawn are left open.  That the third clause also holds while a transmission is in progress, and sets
`tx_busy` there, is the model's choice (notes/assumptions/9.md; R278 and U5 leave it open). -/
def Obligations.StartInIdle : Prop :=
  ∀ (s : State) (i : Instr), i ∈ [Instr.start, .xmtIdleStart] → s.xmtState = .idle →
    let ans := classifyAnswer s.params.opc s.cur.addr s.cur.data s.debugMode
    let rpt := classifyRepeat s.params.opc s.cur.addr s.cur.data
    (s.monBad = true →
      exec i s = .next { s with
        cur := { s.cur with status := .busMonBad }
        ctlq := s.ctlq ++ [.xactdone]
        trace := s.trace ++ [.postCtl .xactdone] }) ∧
    (s.monBad = false → ans = .error →
      exec i s = .next { s with
        ans := .error
        rpt := rpt
        cur := { s.cur with status := .illOp }
        ctlq := s.ctlq ++ [.xactdone]
        trace := s.trace ++ [.postCtl .xactdone] }) ∧
    (s.monBad = false → ans ≠ .error →
      ∃ (e0 e1 : Byte) (k : Nat), exec i s = .next { s with
        ans := ans
        rpt := rpt
        cur := { s.cur with status := .xmtTimeout }
        xmtState := .waitXmtDone
        rxArmed := some (.echo, s.params.frameLen)
        txBusy := true
        tmrArmed := true
        tmrMs := s.params.tEchoMs
        xmtq := withdrawTimeouts s
        trace := s.trace ++
          [.manReceive .echo s.params.frameLen,
            .manTransmit ([s.cur.addr, s.cur.data].take s.params.frameLen) s.params.frameLen,
            .timerOn s.params.tEchoMs]
        echo0 := e0
        echo1 := e1
        freeNext := k })

/-- R181, R184: transmit done. -/
def Obligations.TransmitDone : Prop :=
  ∀ (s : State) (i : Instr), i ∈ [Instr.manxmtdone, .xmtWaitXmtDoneManxmtdone] → s.xmtState = .waitXmtDone →
    exec i s = .next { s with cur := { s.cur with status := .busErr }, xmtState := .waitXmtEcho }

/-- R182, R183, R186, R187: the four aborts that touch nothing but the status, the state and `ctlq`. -/
def Obligations.AbortsReportOnce : Prop :=
  ∀ (s : State) (i : Instr) (st : ResultStatus),
    (s.xmtState, i, st) ∈
      [(XmtState.waitXmtDone, Instr.manrcveror, ResultStatus.busErr),
       (.waitXmtDone, .xmtWaitXmtDoneManrcveror, .busErr),
       (.waitXmtDone, .timeout, .xmtTimeout),
       (.waitXmtDone, .xmtWaitXmtDoneTimeout, .xmtTimeout),
       (.waitXmtEcho, .manrcveror, .busErr),
       (.waitXmtEcho, .xmtWaitXmtEchoManrcveror, .busErr),
       (.waitXmtEcho, .timeout, .busErr),
       (.waitXmtEcho, .xmtWaitXmtEchoTimeout, .busErr)] →
    exec i s = .next { s with
      cur := { s.cur with status := st }
      xmtState := .idle
      ctlq := s.ctlq ++ [.xactdone]
      trace := s.trace ++ [.postCtl .xactdone] }

/-- R185, R188: the echo arrived; its `FRAME_LEN` bytes (2 by default, R8) are compared one by one.  The response buffer after arming is unspecified (R66). -/
def Obligations.EchoReceived : Prop :=
  ∀ (s : State) (i : Instr), i ∈ [Instr.manrcvdone, .xmtWaitXmtEchoManrcvdone] → s.xmtState = .waitXmtEcho →
    let same :=
      (1 ≤ s.params.frameLen → memRead .echo0 s = memRead .frame0 s) ∧
      (2 ≤ s.params.frameLen → memRead .echo1 s = memRead .frame1 s)
    let expected := s.ans = .maybe ∨ s.ans = .required
    (same → expected →
      ∃ (v : Byte) (k : Nat), exec i s = .next { s with
        cur := { s.cur with status := .rcvTimeout }
        xmtState := .waitRcvDone
        edge := false
        rxArmed := some (.rspbuf, s.params.rspLen)
        tmrArmed := true
        tmrMs := s.params.tRcvMs
        xmtq := withdrawTimeouts s
        trace := s.trace ++ [.timerOff, .manReceive .rspbuf s.params.rspLen, .timerOn s.params.tRcvMs]
        rspbuf0 := v
        freeNext := k }) ∧
    (same → ¬expected →
      exec i s = .next { s with
        cur := { s.cur with status := .ok }
        xmtState := .waitFrameTime
        tmrArmed := true
        tmrMs := s.params.tFrameMs
        xmtq := withdrawTimeouts s
        trace := s.trace ++ [.timerOff, .timerOn s.params.tFrameMs] }) ∧
    (¬same →
      exec i s = .next { s with
        cur := { s.cur with status := .echoErr }
        xmtState := .idle
        tmrArmed := false
        xmtq := withdrawTimeouts s
        ctlq := s.ctlq ++ [.xactdone]
        trace := s.trace ++ [.timerOff, .postCtl .xactdone] })

/-- R189: the edge latch, and the event in every other state. -/
def Obligations.EdgeSeen : Prop :=
  ∀ s : State,
    (s.xmtState = .waitRcvDone →
      exec .edgeseen s = .next { s with edge := true } ∧
      exec .xmtWaitRcvDoneEdgeseen s = .next { s with edge := true }) ∧
    (s.xmtState ≠ .waitRcvDone → exec .edgeseen s = .next s)

/-- R190, R195: the answer arrived. -/
def Obligations.AnswerReceived : Prop :=
  ∀ (s : State) (i : Instr), i ∈ [Instr.manrcvdone, .xmtWaitRcvDoneManrcvdone] → s.xmtState = .waitRcvDone →
    exec i s = .next { s with
      cur := { s.cur with rsp := memRead .rspbuf0 s, status := .rcvOk }
      xmtState := .waitBackFrameTime
      tmrArmed := true
      tmrMs := s.params.tBackMs
      xmtq := withdrawTimeouts s
      trace := s.trace ++ [.timerOff, .timerOn s.params.tBackMs] }

/-- R191: a receive error in the answer window. -/
def Obligations.AnswerGarbled : Prop :=
  ∀ (s : State) (i : Instr), i ∈ [Instr.manrcveror, .xmtWaitRcvDoneManrcveror] → s.xmtState = .waitRcvDone →
    exec i s = .next { s with
      cur := { s.cur with status := if s.edge = true then .busCol else .rcvTimeout }
      rpt := false
      xmtState := .waitFrameTime
      tmrArmed := true
      tmrMs := s.params.tFrameMs
      xmtq := withdrawTimeouts s
      trace := s.trace ++ [.timerOn s.params.tFrameMs] }

/-- R192: no answer in time.  The armed buffer's content after the abort is unspecified (R66); a buffer that was not armed
keeps its content. -/
def Obligations.AnswerTimedOut : Prop :=
  ∀ (s : State) (i : Instr), i ∈ [Instr.timeout, .xmtWaitRcvDoneTimeout] → s.xmtState = .waitRcvDone →
    ∃ (e0 e1 v : Byte) (k : Nat),
      ((∀ n, s.rxArmed ≠ some (.echo, n)) → e0 = s.echo0 ∧ e1 = s.echo1) ∧
      ((∀ n, s.rxArmed ≠ some (.rspbuf, n)) → v = s.rspbuf0) ∧
      exec i s = .next { s with
        cur := { s.cur with status := if s.ans = .required then .rcvTimeout else .ok }
        xmtState := .idle
        rxArmed := none
        ctlq := s.ctlq ++ [.xactdone]
        trace := s.trace ++ [.manAbortReceive, .postCtl .xactdone]
        echo0 := e0
        echo1 := e1
        rspbuf0 := v
        freeNext := k }

/-- R194: the inter-frame gap ends: the second transmission, or the end of the transaction.  That the first clause also holds
while a transmission is in progress, and sets `tx_busy` there, is the model's choice (notes/assumptions/9.md; R278 and U5
leave it open). -/
def Obligations.FrameTimeOver : Prop :=
  ∀ (s : State) (i : Instr), i ∈ [Instr.timeout, .xmtWaitFrameTimeTimeout] → s.xmtState = .waitFrameTime →
    (s.rpt = true →
      ∃ (e0 e1 : Byte) (k : Nat), exec i s = .next { s with
        rpt := false
        cur := { s.cur with status := .xmtTimeout }
        xmtState := .waitXmtDone
        rxArmed := some (.echo, s.params.frameLen)
        txBusy := true
        tmrArmed := true
        tmrMs := s.params.tEchoMs
        xmtq := withdrawTimeouts s
        trace := s.trace ++
          [.manReceive .echo s.params.frameLen,
            .manTransmit ([s.cur.addr, s.cur.data].take s.params.frameLen) s.params.frameLen,
            .timerOn s.params.tEchoMs]
        echo0 := e0
        echo1 := e1
        freeNext := k }) ∧
    (s.rpt = false →
      exec i s = .next { s with
        xmtState := .idle
        ctlq := s.ctlq ++ [.xactdone]
        trace := s.trace ++ [.postCtl .xactdone] })

/-- R196: the gap after an answer ends. -/
def Obligations.BackFrameTimeOver : Prop :=
  ∀ (s : State) (i : Instr), i ∈ [Instr.timeout, .xmtWaitBackFrameTimeTimeout] → s.xmtState = .waitBackFrameTime →
    exec i s = .next { s with
      xmtState := .idle
      ctlq := s.ctlq ++ [.xactdone]
      trace := s.trace ++ [.postCtl .xactdone] }

/-- R197: the 23 pairs without a rule; nothing changes. -/
def Obligations.UnlistedPairsIgnored : Prop :=
  ∀ (s : State) (e : XmtEvt),
    (s.xmtState, e) ∈
      [(XmtState.idle, XmtEvt.timeout), (.idle, .manxmtdone), (.idle, .manrcvdone), (.idle, .manrcveror),
       (.idle, .edgeseen), (.waitXmtDone, .start), (.waitXmtDone, .manrcvdone), (.waitXmtDone, .edgeseen),
       (.waitXmtEcho, .start), (.waitXmtEcho, .manxmtdone), (.waitXmtEcho, .edgeseen),
       (.waitRcvDone, .start), (.waitRcvDone, .manxmtdone),
       (.waitFrameTime, .start), (.waitFrameTime, .manxmtdone), (.waitFrameTime, .manrcvdone),
       (.waitFrameTime, .manrcveror), (.waitFrameTime, .edgeseen),
       (.waitBackFrameTime, .start), (.waitBackFrameTime, .manxmtdone), (.waitBackFrameTime, .manrcvdone),
       (.waitBackFrameTime, .manrcveror), (.waitBackFrameTime, .edgeseen)] →
    exec (xmtEvtInstr e) s = .next s ∧ exec (.xmtDefault s.xmtState e) s = .next s

/-- R101: a dispatch key of the machine's own state is the dispatch of its event, in XMT and in CTL. -/
def Obligations.KeyRowIsTheDispatch : Prop :=
  ∀ s : State,
    (∀ e : XmtEvt, exec (xmtKeyInstr s.xmtState e) s = exec (xmtEvtInstr e) s) ∧
    ∀ e : CtlEvt, exec (ctlKeyInstr s.ctlState e) s = exec (ctlEvtInstr e) s

/-- The model's stops (notes/assumptions/5.md): a key of a state the machine is not in, a default row for a pair that has a
row, and a classifier row its frame does not select are refused by name. -/
def Obligations.OperationsOutsideTheirRowRefused : Prop :=
  ∀ s : State,
    (∀ (st : XmtState) (e : XmtEvt), st ≠ s.xmtState → exec (xmtKeyInstr st e) s = .refused .keyNotCurrent) ∧
    (∀ (st : CtlState) (e : CtlEvt), st ≠ s.ctlState → exec (ctlKeyInstr st e) s = .refused .keyNotCurrent) ∧
    (∀ (st : XmtState) (e : XmtEvt), xmtHasRow st e = true →
      exec (.xmtDefault st e) s = .refused .rowNotSelected) ∧
    (∀ (st : CtlState) (e : CtlEvt), ctlHasRow st e = true →
      exec (.ctlDefault st e) s = .refused .rowNotSelected) ∧
    (∀ (i : Instr) (r : AnsRow), answerRowOf i = some r → answerRowOk s.params.opc i = false →
      exec i s = .refused .rowNotSelected) ∧
    ∀ (i : Instr) (r : RptRow), repeatRowOf i = some r → repeatRowOk s.params.opc i = false →
      exec i s = .refused .rowNotSelected

/-! ### CTL and the host interface -/

/-- R232, with the entry action of R233: the oldest message becomes the current one. -/
def Obligations.MessageDequeued : Prop :=
  ∀ (s : State) (i : Instr), i ∈ [Instr.msgenq, .ctlIdleMsgenq] → s.ctlState = .idle →
    (s.q = [] → exec i s = .next s) ∧
    (∀ (m : BusMessage) (rest : List BusMessage), s.q = m :: rest →
      exec i s = .next { s with
        ctlState := .wait
        q := rest
        cur := { m with rsp := 0 }
        xmtq := s.xmtq ++ [.start]
        trace := s.trace ++ [.queueGet m, .postXmt .start] })

/-- R234, R236: a message enqueued while one is in flight starts nothing, under both settings of `CTL_BUSY_ENQ`, and
`XACTDONE` in Idle changes nothing. -/
def Obligations.CtlEventsWithoutEffect : Prop :=
  ∀ s : State,
    (s.ctlState = .wait → exec .msgenq s = .next s ∧ exec .ctlWaitMsgenq s = .next s) ∧
    (s.ctlState = .idle → exec .xactdone s = .next s ∧ exec (.ctlDefault .idle .xactdone) s = .next s)

/-- R235: completion delivers the message and returns CTL to Idle; only `defer` with messages waiting re-posts. -/
def Obligations.TransactionDelivered : Prop :=
  ∀ (s : State) (i : Instr), i ∈ [Instr.xactdone, .ctlWaitXactdone] → s.ctlState = .wait →
    (s.params.ctlBusyEnq = .drop ∨ s.q = [] →
      exec i s = .next { s with
        ctlState := .idle
        delivered := s.delivered ++ [s.cur]
        trace := s.trace ++ [.outputRcvMsg s.cur] }) ∧
    (s.params.ctlBusyEnq = .defer → s.q ≠ [] →
      exec i s = .next { s with
        ctlState := .idle
        delivered := s.delivered ++ [s.cur]
        ctlq := s.ctlq ++ [.msgenq]
        trace := s.trace ++ [.outputRcvMsg s.cur, .postCtl .msgenq] })

/-- R231: `TransmitMessage` enqueues and posts, or reports a full queue and changes nothing of the block. -/
def Obligations.TransmitMessageCall : Prop :=
  ∀ (s : State) (addr data : Byte) (cb : Option CbT) (opt : OptT),
    let m : BusMessage := { addr := addr, data := data, cb := cb, opt := opt, rsp := 0, status := .ok }
    (s.q.length < s.params.qdepth →
      exec (.transmitmessage addr data cb opt) s = .next { s with
        q := s.q ++ [m]
        ctlq := s.ctlq ++ [.msgenq]
        trace := s.trace ++ [.queuePut m true, .postCtl .msgenq]
        returned := .accepted true }) ∧
    (s.params.qdepth ≤ s.q.length →
      exec (.transmitmessage addr data cb opt) s = .next { s with
        trace := s.trace ++ [.queuePut m false]
        returned := .accepted false })

/-- R250: `GetStatusDescription` is a lookup into ten strings and a sentinel, and changes nothing. -/
def Obligations.StatusDescriptionCall : Prop :=
  ∀ (s : State) (n : Byte),
    let t := s.params.strings
    exec (.getstatusdesc n) s = .next { s with
      returned := .text
        (([t.ok, t.rcvOk, t.rcvErr, t.xmtTimeout, t.busErr, t.echoErr, t.rcvTimeout, t.busCol, t.illOp,
          t.busMonBad])[n.toNat]?.getD t.unknown) }

/-- The ten status rows complete with their description (R104, R251; that a row is looked up is the model's choice,
notes/assumptions/5.md). -/
def Obligations.StatusRowsDescribe : Prop :=
  ∀ (s : State) (i : Instr) (text : String),
    (i, text) ∈
      [(Instr.stOk, s.params.strings.ok), (.stRcvOk, s.params.strings.rcvOk), (.stRcvErr, s.params.strings.rcvErr),
       (.stXmtTimeout, s.params.strings.xmtTimeout), (.stBusErr, s.params.strings.busErr),
       (.stEchoErr, s.params.strings.echoErr), (.stRcvTimeout, s.params.strings.rcvTimeout),
       (.stBusCol, s.params.strings.busCol), (.stIllOp, s.params.strings.illOp),
       (.stBusMonBad, s.params.strings.busMonBad)] →
    exec i s = .next { s with returned := .text text }

/-- R252, derived in the spec: with the default strings two statuses never have the same description. -/
def Obligations.DefaultStringsDistinct : Prop :=
  ∀ a b : ResultStatus, statusString defaultStrings a = statusString defaultStrings b → a = b

/-! ### Steps -/

/-- A step whose line's bytes decode to an operation runs that operation on the rest of the script; bytes that are no
operation are refused by name.  (The script stands for the environment's choices: notes/assumptions/3.md.) -/
def Obligations.StepRunsDecoded : Prop :=
  ∀ (s : State) (f : Format) (bytes : List Byte) (rest : List Line), s.script = .op f bytes :: rest →
    (∀ (i : Instr) (after : List Byte), decode s.params.opc f bytes = .ok i after →
      step s = exec i { s with script := rest }) ∧
    (∀ e : DecodeError, decode s.params.opc f bytes = .error e → step s = .refused (.undecodable e))

/-- A word of the opcode table put where the next step fetches runs as the next step's operation, in the state a key names
(the model's choice, notes/assumptions/5.md). -/
def Obligations.TableWordRuns : Prop :=
  ∀ (s : State) (nbits w : Nat) (i : Instr), s.params.opc = defaultOpc → decodeTableWord nbits w = some i →
    step (s.withFetchWord nbits w) = exec i (selectKeyState nbits w s)

/-- R70, R71, R275: a dispatch takes the oldest event of its queue and runs it to completion.  A dispatch of an empty queue is
not enabled (R302), and that the model refuses it by name is its own choice (notes/assumptions/8.md). -/
def Obligations.DispatchTakesTheOldestEvent : Prop :=
  ∀ (s : State) (rest : List Line),
    (s.script = .dispatchCtl :: rest →
      (∀ (e : CtlEvt) (later : List CtlEvt), s.ctlq = e :: later →
        step s = exec (ctlEvtInstr e) { s with script := rest, ctlq := later }) ∧
      (s.ctlq = [] → step s = .refused .nothingToDispatch)) ∧
    (s.script = .dispatchXmt :: rest →
      (∀ (e : XmtEvt) (later : List XmtEvt), s.xmtq = e :: later →
        step s = exec (xmtEvtInstr e) { s with script := rest, xmtq := later }) ∧
      (s.xmtq = [] → step s = .refused .nothingToDispatch))

/-- R107, R277 to R281: what the transport, the timer and the debug input do, under each contract that is in force and where
it is dropped (R313, U15, U18).  The bytes of a receive are any (R277).  The content of a buffer whose receive failed is
unspecified (R66).  What a dropped R279 leaves of a receive is the model's choice (notes/assumptions/8.md; U15 says only
that the events are still handled): another number of bytes than armed is cut to those armed, and a receive event
without an armed receive is posted with nothing stored.  That bytes beyond the buffer are not stored is the model's too
(notes/assumptions/1.md). -/
def Obligations.EnvironmentLines : Prop :=
  ∀ (s : State) (rest : List Line),
    let post (e : XmtEvt) : State := { s with script := rest, xmtq := s.xmtq ++ [e] }
    (s.script = .xmtDone :: rest → (s.params.transmitContract = true → s.txBusy = true) →
      step s = .next { post .manxmtdone with txBusy := false }) ∧
    (∀ (bytes : List Byte) (n : Nat), s.script = .rcvDone bytes :: rest → s.rxArmed = some (.echo, n) →
      (s.params.receiveContract = true → bytes.length = n) → (s.params.echoOrderContract = true → s.txBusy = false) →
      step s = .next { post .manrcvdone with
        rxArmed := none
        echo0 := (bytes.take n)[0]?.getD s.echo0
        echo1 := (bytes.take n)[1]?.getD s.echo1 }) ∧
    (∀ (bytes : List Byte) (n : Nat), s.script = .rcvDone bytes :: rest → s.rxArmed = some (.rspbuf, n) →
      (s.params.receiveContract = true → bytes.length = n) →
      step s = .next { post .manrcvdone with rxArmed := none, rspbuf0 := (bytes.take n)[0]?.getD s.rspbuf0 }) ∧
    (s.script = .rcvErr :: rest → (∃ n, s.rxArmed = some (.echo, n)) →
      ∃ (e0 e1 : Byte) (k : Nat), step s = .next { post .manrcveror with
        rxArmed := none, echo0 := e0, echo1 := e1, freeNext := k }) ∧
    (s.script = .rcvErr :: rest → (∃ n, s.rxArmed = some (.rspbuf, n)) →
      ∃ (v : Byte) (k : Nat), step s = .next { post .manrcveror with rxArmed := none, rspbuf0 := v, freeNext := k }) ∧
    (s.script = .edge :: rest → (s.params.receiveContract = true → s.rxArmed ≠ none) →
      step s = .next (post .edgeseen)) ∧
    (s.rxArmed = none → s.params.receiveContract = false →
      (∀ bytes : List Byte, s.script = .rcvDone bytes :: rest → step s = .next (post .manrcvdone)) ∧
      (s.script = .rcvErr :: rest → step s = .next (post .manrcveror))) ∧
    (s.script = .expire :: rest → (s.params.timerContract = true → s.tmrArmed = true) →
      step s = .next { post .timeout with tmrArmed := false }) ∧
    (∀ on : Bool, s.script = .debug on :: rest → step s = .next { s with script := rest, debugMode := on })

/-- R278 to R281: an event the contracts in force do not allow is not enabled (the model refuses it by name:
notes/assumptions/8.md), and every other event of the transport and the timer is. -/
def Obligations.NotEnabledLinesRefused : Prop :=
  ∀ (s : State) (rest : List Line),
    (s.params.transmitContract = true → s.txBusy = false → s.script = .xmtDone :: rest →
      step s = .refused .transmitIdle) ∧
    (s.params.receiveContract = true → s.rxArmed = none →
      ∀ l : Line, (l = .rcvErr ∨ l = .edge ∨ ∃ bytes, l = .rcvDone bytes) → s.script = l :: rest →
        step s = .refused .receiveIdle) ∧
    (s.params.receiveContract = true →
      ∀ (b : RxBuf) (n : Nat) (bytes : List Byte), s.rxArmed = some (b, n) → bytes.length ≠ n →
        s.script = .rcvDone bytes :: rest → step s = .refused .receiveLength) ∧
    (s.params.echoOrderContract = true → s.txBusy = true →
      ∀ (n : Nat) (bytes : List Byte), s.rxArmed = some (.echo, n) →
        (s.params.receiveContract = true → bytes.length = n) →
        s.script = .rcvDone bytes :: rest → step s = .refused .echoBeforeTransmitDone) ∧
    (s.params.timerContract = true → s.tmrArmed = false → s.script = .expire :: rest →
      step s = .refused .timerIdle) ∧
    ∀ l : Line, (l ∈ [Line.xmtDone, .rcvErr, .edge, .expire] ∨ ∃ bytes, l = .rcvDone bytes) → s.script = l :: rest →
      (environmentAllows s l = true ↔ ∃ t, step s = .next t)

/-- R108: the pseudo-operations are their expansions; `RUN` dispatches CTL first and ends with both queues empty. -/
def Obligations.PseudoOperationsExpand : Prop :=
  ∀ (s : State) (rest : List Line),
    (s.script = .echoOk :: rest →
      step s = .next { s with
        script := .xmtDone :: .rcvDone ([s.cur.addr, s.cur.data].take s.params.frameLen) :: .run :: rest }) ∧
    (∀ b0 b1 : Byte, s.script = .echoBad b0 b1 :: rest →
      step s = .next { s with script := .xmtDone :: .rcvDone [b0, b1] :: .run :: rest }) ∧
    (∀ v : Byte, s.script = .respond v :: rest → step s = .next { s with script := .rcvDone [v] :: .run :: rest }) ∧
    (s.script = .waitOut :: rest → step s = .next { s with script := .expire :: .run :: rest }) ∧
    (∀ n : Nat, s.script = .bad n :: rest →
      step s = .next { s with script := List.replicate n (.op .evt8 [0x30#8, 0x01#8]) ++ rest }) ∧
    (∀ n : Nat, s.script = .good n :: rest →
      step s = .next { s with script := List.replicate n (.op .evt8 [0x30#8, 0x00#8]) ++ rest }) ∧
    (s.script = .run :: rest →
      (∀ (e : CtlEvt) (later : List CtlEvt), s.ctlq = e :: later →
        step s = exec (ctlEvtInstr e) { s with ctlq := later }) ∧
      (∀ (e : XmtEvt) (later : List XmtEvt), s.ctlq = [] → s.xmtq = e :: later →
        step s = exec (xmtEvtInstr e) { s with xmtq := later }) ∧
      (s.ctlq = [] → s.xmtq = [] → step s = .next { s with script := rest }))

/-- R40, R281: arming and disarming the timer withdraw a queued expiry and no other event.  Where the timer contract is
dropped (R313, U18) they withdraw nothing. -/
def Obligations.TimerWithdrawsExpiries : Prop :=
  ∀ (s : State) (ms : Nat),
    let on (xmtq : List XmtEvt) : State :=
      { s with tmrArmed := true, tmrMs := ms, xmtq := xmtq, trace := s.trace ++ [.timerOn ms] }
    let off (xmtq : List XmtEvt) : State :=
      { s with tmrArmed := false, xmtq := xmtq, trace := s.trace ++ [.timerOff] }
    (s.params.timerContract = true →
      withdrawTimeouts s = s.xmtq.filter (fun e => e ≠ .timeout) ∧
      timerOn ms s = on (s.xmtq.filter (fun e => e ≠ .timeout)) ∧
      timerOff s = off (s.xmtq.filter (fun e => e ≠ .timeout))) ∧
    (s.params.timerContract = false →
      withdrawTimeouts s = s.xmtq ∧ timerOn ms s = on s.xmtq ∧ timerOff s = off s.xmtq)

/-! ### Reset -/

/-- R44: the reset values the spec decides. -/
def Obligations.ResetValues : Prop :=
  State.reset.ctlState = .idle ∧ State.reset.xmtState = .idle ∧
  State.reset.monCnt = 0 ∧ State.reset.monBad = false ∧
  State.reset.ans = .none ∧ State.reset.rpt = false ∧ State.reset.edge = false ∧
  State.reset.q = [] ∧ State.reset.ctlq = [] ∧ State.reset.xmtq = [] ∧
  State.reset.tmrArmed = false ∧ State.reset.txBusy = false ∧ State.reset.rxArmed = none ∧
  State.reset.delivered = []

/-- Every invariant stated below holds after reset, for any well-formed parameters.  That reset takes parameters is the model's
choice (notes/assumptions/1.md).  `statusInv` holds there because reset gives `cur.status`, which R44 leaves
unspecified, the value `ST_OK`, and `hostContract` because the script starts empty: both are the model's choices
(notes/assumptions/2.md). -/
def Obligations.InvariantsAtReset : Prop :=
  ∀ p : Params, p.wf →
    monitorInv (State.resetWith p) ∧ hostContract (State.resetWith p) ∧ flightInv (State.resetWith p) ∧
    pendingInv (State.resetWith p) ∧ depthInv (State.resetWith p) ∧ timerInv (State.resetWith p) ∧
    expiryInv (State.resetWith p) ∧ answerInv (State.resetWith p) ∧ repeatInv (State.resetWith p) ∧
    statusInv (State.resetWith p) ∧ receiveInv (State.resetWith p)

/-! ### Every step -/

/-- R239, R46(b): one transaction at a time.  Under the host's contract (R276) every step keeps: one pending `START`, busy XMT
or pending `XACTDONE` exactly while CTL waits. -/
def Obligations.OneTransactionAtATime : Prop :=
  ∀ s t : State, hostContract s → flightInv s → step s = .next t → hostContract t ∧ flightInv t

/-- R200: no state of XMT can be waited in for ever: every step keeps a timer armed, or its expiry queued, outside Idle. -/
def Obligations.EveryWaitIsTimed : Prop :=
  ∀ s t : State, timerInv s → step s = .next t → timerInv t

/-- R200, the part about transitions: outside Idle every step leaves XMT in its state with its repeat flag as it was, or
lowers its rank.  (That a wait ends at all needs the fairness of R275 and R281 and is not
claimed here.) -/
def Obligations.TransactionRankDecreases : Prop :=
  ∀ s t : State, s.xmtState ≠ .idle → step s = .next t →
    (t.xmtState = s.xmtState ∧ t.rpt = s.rpt) ∨ xmtRank t < xmtRank s

/-- R281: every step keeps at most one expiry per arming, and none beside an armed timer. -/
def Obligations.NoStaleExpiry : Prop :=
  ∀ s t : State, expiryInv s → step s = .next t → expiryInv t

/-- R238, derived in the spec: with `drop`, and under the host's contract, every step keeps at least one record in `q` for every
pending `MSGENQ`. -/
def Obligations.PendingMessagesHaveRecords : Prop :=
  ∀ s t : State, hostContract s → pendingInv s → step s = .next t → hostContract t ∧ pendingInv t

/-- R38, R64: every step keeps `q` within `QDEPTH`, and a receive armed only for `FRAME_LEN` echo
bytes or `RSP_LEN` response bytes. -/
def Obligations.QueueAndReceiveBounds : Prop :=
  ∀ s t : State, depthInv s → receiveInv s → step s = .next t → depthInv t ∧ receiveInv t

/-- R170, R185, R145: every step keeps that no refused frame is in flight, that WaitRcvDone is entered only when an answer is
expected, and that a frame still to be repeated expects none. -/
def Obligations.LatchedFlagsInvariant : Prop :=
  ∀ s t : State, answerInv s → repeatInv s → step s = .next t → answerInv t ∧ repeatInv t

/-- R262, derived in the spec: every step keeps `ST_RCVERR` out of every message. -/
def Obligations.ReceiveErrorStatusNeverSet : Prop :=
  ∀ s t : State, statusInv s → step s = .next t → statusInv t

/-- R260, R38: no step ends in a fault: `QueueGet` is never called on an empty queue. -/
def Obligations.NoStepFaults : Prop :=
  ∀ (s : State) (r : Fault), step s ≠ .fault r

/-- R80, R231, R276: a record is in one place at a time.  Every step keeps the number of messages, but for an accepted
`TransmitMessage` (EVT8 code 0x40, with room in `q`), which adds one at the end of `q`. -/
def Obligations.MessagesAreConserved : Prop :=
  ∀ s t : State, step s = .next t →
    messageCount t = messageCount s ∨
    (messageCount t = messageCount s + 1 ∧
      ∃ (bytes : List Byte) (rest : List Line) (m : BusMessage),
        s.script = .op .evt8 (0x40#8 :: bytes) :: rest ∧ s.q.length < s.params.qdepth ∧
        t.q = s.q ++ [m] ∧ m.rsp = 0 ∧ m.status = .ok ∧ t.returned = .accepted true)

/-- R80, R42, R235: `q` is first in, first out; the current message is delivered as it stands, when CTL leaves Wait. -/
def Obligations.MessagesKeepTheirOrder : Prop :=
  ∀ s t : State, step s = .next t →
    (t.q = s.q ∨ (∃ m, t.q = s.q ++ [m]) ∨
      ∃ m, s.q = m :: t.q ∧ t.cur = { m with rsp := 0 } ∧ s.ctlState = .idle ∧ t.ctlState = .wait) ∧
    (t.delivered = s.delivered ∨
      (t.delivered = s.delivered ++ [s.cur] ∧ s.ctlState = .wait ∧ t.ctlState = .idle))

/-- R24, R66, R233: address, data, callback and option of the current message change only when CTL dequeues; while XMT is
busy they are stable, in every state with one transaction in flight. -/
def Obligations.FrameStableInFlight : Prop :=
  ∀ s t : State, flightInv s → s.xmtState ≠ .idle → step s = .next t →
    t.cur.addr = s.cur.addr ∧ t.cur.data = s.cur.data ∧ t.cur.cb = s.cur.cb ∧ t.cur.opt = s.cur.opt ∧
    memRead .frame0 t = memRead .frame0 s ∧ memRead .frame1 t = memRead .frame1 s

/-- R28, R29, R318: outside Idle the classification is latched: no step changes `ans`, and `rpt` is only cleared. -/
def Obligations.ClassificationIsLatched : Prop :=
  ∀ s t : State, s.xmtState ≠ .idle → step s = .next t →
    t.ans = s.ans ∧ (t.rpt = s.rpt ∨ t.rpt = false)

/-- R30, R320: the edge latch is set only in WaitRcvDone and cleared only on entering it. -/
def Obligations.EdgeLatchDiscipline : Prop :=
  ∀ s t : State, step s = .next t → t.edge ≠ s.edge →
    (t.edge = true ∧ s.xmtState = .waitRcvDone ∧ t.xmtState = .waitRcvDone) ∨
    (t.edge = false ∧ s.xmtState = .waitXmtEcho ∧ t.xmtState = .waitRcvDone)

/-- R173, R194, R332: a step puts a frame on the bus only on leaving Idle for a good bus and a legal frame, or once more by
clearing the repeat flag; the frame sent is the current message's, after the echo receive is armed. -/
def Obligations.TransmissionsAreAccounted : Prop :=
  ∀ s t : State, step s = .next t →
    ∃ acts : List Action, t.trace = s.trace ++ acts ∧
      ((∃ bytes n, Action.manTransmit bytes n ∈ acts) →
        acts =
          [.manReceive .echo s.params.frameLen,
            .manTransmit ([s.cur.addr, s.cur.data].take s.params.frameLen) s.params.frameLen,
            .timerOn s.params.tEchoMs] ∧
        t.xmtState = .waitXmtDone ∧
        ((s.xmtState = .idle ∧ s.monBad = false ∧ t.ans ≠ .error) ∨
          (s.xmtState = .waitFrameTime ∧ s.rpt = true ∧ t.rpt = false)))

/-- R61, R66: no operation writes a byte of a buffer.  A byte of a receive buffer differs after an operation only if the
operation armed a receive into that buffer, or aborted the one armed there; a byte of `frame` only if it dequeued a
message. -/
def Obligations.BuffersBelongToTheTransport : Prop :=
  ∀ (i : Instr) (s t : State), exec i s = .next t →
    ∃ acts : List Action, t.trace = s.trace ++ acts ∧
      (.manReceive .echo s.params.frameLen ∉ acts → (.manAbortReceive ∉ acts ∨ ∀ n, s.rxArmed ≠ some (.echo, n)) →
        memRead .echo0 t = memRead .echo0 s ∧ memRead .echo1 t = memRead .echo1 s) ∧
      (.manReceive .rspbuf s.params.rspLen ∉ acts → (.manAbortReceive ∉ acts ∨ ∀ n, s.rxArmed ≠ some (.rspbuf, n)) →
        memRead .rspbuf0 t = memRead .rspbuf0 s) ∧
      ((∀ m, .queueGet m ∉ acts) → memRead .frame0 t = memRead .frame0 s ∧ memRead .frame1 t = memRead .frame1 s)

/-- R165, R178: while the bus is bad and XMT is idle, no step starts a transmission, arms a receive or the timer, or moves
XMT.  (Idle only: R74 and R317 let the second transmission of a repeat go out on a bad bus.) -/
def Obligations.IdleBadBusStartsNothing : Prop :=
  ∀ s t : State, s.monBad = true → s.xmtState = .idle → step s = .next t →
    t.xmtState = .idle ∧ (t.txBusy = true → s.txBusy = true) ∧ (t.rxArmed ≠ none → t.rxArmed = s.rxArmed) ∧
    (t.tmrArmed = true → s.tmrArmed = true) ∧ t.tmrMs = s.tmrMs ∧ t.ans = s.ans ∧ t.rpt = s.rpt ∧
    ∃ acts : List Action, t.trace = s.trace ++ acts ∧
      (∀ bytes n, .manTransmit bytes n ∉ acts) ∧ (∀ b n, .manReceive b n ∉ acts) ∧ ∀ ms, .timerOn ms ∉ acts

end
end

