-- ==== Sys2Proof/Laws/State.lean ====
section
/-! SUPPORT. One lemma per field of `State` for every operation over the state (`Machine/Ops.lean`, `Machine/XmtRules.lean`,
`Machine/CtlRules.lean`, `Machine/Script.lean`), so that no proof has to unfold a record update. -/

namespace Sys2Proof.Machine

@[simp] theorem withdrawTimeouts_of_contract (s : State) (h : s.params.timerContract = true) :
    withdrawTimeouts s = s.xmtq.filter (fun e => e != .timeout) := by simp [withdrawTimeouts, h]

/-! ### `postCtl` -/

@[simp] theorem postCtl_ctlState (e : CtlEvt) (s : State) : (postCtl e s).ctlState = s.ctlState := rfl
@[simp] theorem postCtl_xmtState (e : CtlEvt) (s : State) : (postCtl e s).xmtState = s.xmtState := rfl
@[simp] theorem postCtl_cur (e : CtlEvt) (s : State) : (postCtl e s).cur = s.cur := rfl
@[simp] theorem postCtl_ans (e : CtlEvt) (s : State) : (postCtl e s).ans = s.ans := rfl
@[simp] theorem postCtl_rpt (e : CtlEvt) (s : State) : (postCtl e s).rpt = s.rpt := rfl
@[simp] theorem postCtl_edge (e : CtlEvt) (s : State) : (postCtl e s).edge = s.edge := rfl
@[simp] theorem postCtl_monCnt (e : CtlEvt) (s : State) : (postCtl e s).monCnt = s.monCnt := rfl
@[simp] theorem postCtl_monBad (e : CtlEvt) (s : State) : (postCtl e s).monBad = s.monBad := rfl
@[simp] theorem postCtl_debugMode (e : CtlEvt) (s : State) : (postCtl e s).debugMode = s.debugMode := rfl
@[simp] theorem postCtl_echo0 (e : CtlEvt) (s : State) : (postCtl e s).echo0 = s.echo0 := rfl
@[simp] theorem postCtl_echo1 (e : CtlEvt) (s : State) : (postCtl e s).echo1 = s.echo1 := rfl
@[simp] theorem postCtl_rspbuf0 (e : CtlEvt) (s : State) : (postCtl e s).rspbuf0 = s.rspbuf0 := rfl
@[simp] theorem postCtl_q (e : CtlEvt) (s : State) : (postCtl e s).q = s.q := rfl
@[simp] theorem postCtl_ctlq (e : CtlEvt) (s : State) : (postCtl e s).ctlq = s.ctlq ++ [e] := rfl
@[simp] theorem postCtl_xmtq (e : CtlEvt) (s : State) : (postCtl e s).xmtq = s.xmtq := rfl
@[simp] theorem postCtl_tmrArmed (e : CtlEvt) (s : State) : (postCtl e s).tmrArmed = s.tmrArmed := rfl
@[simp] theorem postCtl_tmrMs (e : CtlEvt) (s : State) : (postCtl e s).tmrMs = s.tmrMs := rfl
@[simp] theorem postCtl_txBusy (e : CtlEvt) (s : State) : (postCtl e s).txBusy = s.txBusy := rfl
@[simp] theorem postCtl_rxArmed (e : CtlEvt) (s : State) : (postCtl e s).rxArmed = s.rxArmed := rfl
@[simp] theorem postCtl_delivered (e : CtlEvt) (s : State) : (postCtl e s).delivered = s.delivered := rfl
@[simp] theorem postCtl_trace (e : CtlEvt) (s : State) : (postCtl e s).trace = s.trace ++ [.postCtl e] := rfl
@[simp] theorem postCtl_returned (e : CtlEvt) (s : State) : (postCtl e s).returned = s.returned := rfl
@[simp] theorem postCtl_freeNext (e : CtlEvt) (s : State) : (postCtl e s).freeNext = s.freeNext := rfl
@[simp] theorem postCtl_script (e : CtlEvt) (s : State) : (postCtl e s).script = s.script := rfl
@[simp] theorem postCtl_params (e : CtlEvt) (s : State) : (postCtl e s).params = s.params := rfl

/-! ### `postXmt` -/

@[simp] theorem postXmt_ctlState (e : XmtEvt) (s : State) : (postXmt e s).ctlState = s.ctlState := rfl
@[simp] theorem postXmt_xmtState (e : XmtEvt) (s : State) : (postXmt e s).xmtState = s.xmtState := rfl
@[simp] theorem postXmt_cur (e : XmtEvt) (s : State) : (postXmt e s).cur = s.cur := rfl
@[simp] theorem postXmt_ans (e : XmtEvt) (s : State) : (postXmt e s).ans = s.ans := rfl
@[simp] theorem postXmt_rpt (e : XmtEvt) (s : State) : (postXmt e s).rpt = s.rpt := rfl
@[simp] theorem postXmt_edge (e : XmtEvt) (s : State) : (postXmt e s).edge = s.edge := rfl
@[simp] theorem postXmt_monCnt (e : XmtEvt) (s : State) : (postXmt e s).monCnt = s.monCnt := rfl
@[simp] theorem postXmt_monBad (e : XmtEvt) (s : State) : (postXmt e s).monBad = s.monBad := rfl
@[simp] theorem postXmt_debugMode (e : XmtEvt) (s : State) : (postXmt e s).debugMode = s.debugMode := rfl
@[simp] theorem postXmt_echo0 (e : XmtEvt) (s : State) : (postXmt e s).echo0 = s.echo0 := rfl
@[simp] theorem postXmt_echo1 (e : XmtEvt) (s : State) : (postXmt e s).echo1 = s.echo1 := rfl
@[simp] theorem postXmt_rspbuf0 (e : XmtEvt) (s : State) : (postXmt e s).rspbuf0 = s.rspbuf0 := rfl
@[simp] theorem postXmt_q (e : XmtEvt) (s : State) : (postXmt e s).q = s.q := rfl
@[simp] theorem postXmt_ctlq (e : XmtEvt) (s : State) : (postXmt e s).ctlq = s.ctlq := rfl
@[simp] theorem postXmt_xmtq (e : XmtEvt) (s : State) : (postXmt e s).xmtq = s.xmtq ++ [e] := rfl
@[simp] theorem postXmt_tmrArmed (e : XmtEvt) (s : State) : (postXmt e s).tmrArmed = s.tmrArmed := rfl
@[simp] theorem postXmt_tmrMs (e : XmtEvt) (s : State) : (postXmt e s).tmrMs = s.tmrMs := rfl
@[simp] theorem postXmt_txBusy (e : XmtEvt) (s : State) : (postXmt e s).txBusy = s.txBusy := rfl
@[simp] theorem postXmt_rxArmed (e : XmtEvt) (s : State) : (postXmt e s).rxArmed = s.rxArmed := rfl
@[simp] theorem postXmt_delivered (e : XmtEvt) (s : State) : (postXmt e s).delivered = s.delivered := rfl
@[simp] theorem postXmt_trace (e : XmtEvt) (s : State) : (postXmt e s).trace = s.trace ++ [.postXmt e] := rfl
@[simp] theorem postXmt_returned (e : XmtEvt) (s : State) : (postXmt e s).returned = s.returned := rfl
@[simp] theorem postXmt_freeNext (e : XmtEvt) (s : State) : (postXmt e s).freeNext = s.freeNext := rfl
@[simp] theorem postXmt_script (e : XmtEvt) (s : State) : (postXmt e s).script = s.script := rfl
@[simp] theorem postXmt_params (e : XmtEvt) (s : State) : (postXmt e s).params = s.params := rfl

/-! ### `timerOn` -/

@[simp] theorem timerOn_ctlState (ms : Nat) (s : State) : (timerOn ms s).ctlState = s.ctlState := rfl
@[simp] theorem timerOn_xmtState (ms : Nat) (s : State) : (timerOn ms s).xmtState = s.xmtState := rfl
@[simp] theorem timerOn_cur (ms : Nat) (s : State) : (timerOn ms s).cur = s.cur := rfl
@[simp] theorem timerOn_ans (ms : Nat) (s : State) : (timerOn ms s).ans = s.ans := rfl
@[simp] theorem timerOn_rpt (ms : Nat) (s : State) : (timerOn ms s).rpt = s.rpt := rfl
@[simp] theorem timerOn_edge (ms : Nat) (s : State) : (timerOn ms s).edge = s.edge := rfl
@[simp] theorem timerOn_monCnt (ms : Nat) (s : State) : (timerOn ms s).monCnt = s.monCnt := rfl
@[simp] theorem timerOn_monBad (ms : Nat) (s : State) : (timerOn ms s).monBad = s.monBad := rfl
@[simp] theorem timerOn_debugMode (ms : Nat) (s : State) : (timerOn ms s).debugMode = s.debugMode := rfl
@[simp] theorem timerOn_echo0 (ms : Nat) (s : State) : (timerOn ms s).echo0 = s.echo0 := rfl
@[simp] theorem timerOn_echo1 (ms : Nat) (s : State) : (timerOn ms s).echo1 = s.echo1 := rfl
@[simp] theorem timerOn_rspbuf0 (ms : Nat) (s : State) : (timerOn ms s).rspbuf0 = s.rspbuf0 := rfl
@[simp] theorem timerOn_q (ms : Nat) (s : State) : (timerOn ms s).q = s.q := rfl
@[simp] theorem timerOn_ctlq (ms : Nat) (s : State) : (timerOn ms s).ctlq = s.ctlq := rfl
@[simp] theorem timerOn_xmtq (ms : Nat) (s : State) : (timerOn ms s).xmtq = withdrawTimeouts s := rfl
@[simp] theorem timerOn_tmrArmed (ms : Nat) (s : State) : (timerOn ms s).tmrArmed = true := rfl
@[simp] theorem timerOn_tmrMs (ms : Nat) (s : State) : (timerOn ms s).tmrMs = ms := rfl
@[simp] theorem timerOn_txBusy (ms : Nat) (s : State) : (timerOn ms s).txBusy = s.txBusy := rfl
@[simp] theorem timerOn_rxArmed (ms : Nat) (s : State) : (timerOn ms s).rxArmed = s.rxArmed := rfl
@[simp] theorem timerOn_delivered (ms : Nat) (s : State) : (timerOn ms s).delivered = s.delivered := rfl
@[simp] theorem timerOn_trace (ms : Nat) (s : State) : (timerOn ms s).trace = s.trace ++ [.timerOn ms] := rfl
@[simp] theorem timerOn_returned (ms : Nat) (s : State) : (timerOn ms s).returned = s.returned := rfl
@[simp] theorem timerOn_freeNext (ms : Nat) (s : State) : (timerOn ms s).freeNext = s.freeNext := rfl
@[simp] theorem timerOn_script (ms : Nat) (s : State) : (timerOn ms s).script = s.script := rfl
@[simp] theorem timerOn_params (ms : Nat) (s : State) : (timerOn ms s).params = s.params := rfl

/-! ### `timerOff` -/

@[simp] theorem timerOff_ctlState (s : State) : (timerOff s).ctlState = s.ctlState := rfl
@[simp] theorem timerOff_xmtState (s : State) : (timerOff s).xmtState = s.xmtState := rfl
@[simp] theorem timerOff_cur (s : State) : (timerOff s).cur = s.cur := rfl
@[simp] theorem timerOff_ans (s : State) : (timerOff s).ans = s.ans := rfl
@[simp] theorem timerOff_rpt (s : State) : (timerOff s).rpt = s.rpt := rfl
@[simp] theorem timerOff_edge (s : State) : (timerOff s).edge = s.edge := rfl
@[simp] theorem timerOff_monCnt (s : State) : (timerOff s).monCnt = s.monCnt := rfl
@[simp] theorem timerOff_monBad (s : State) : (timerOff s).monBad = s.monBad := rfl
@[simp] theorem timerOff_debugMode (s : State) : (timerOff s).debugMode = s.debugMode := rfl
@[simp] theorem timerOff_echo0 (s : State) : (timerOff s).echo0 = s.echo0 := rfl
@[simp] theorem timerOff_echo1 (s : State) : (timerOff s).echo1 = s.echo1 := rfl
@[simp] theorem timerOff_rspbuf0 (s : State) : (timerOff s).rspbuf0 = s.rspbuf0 := rfl
@[simp] theorem timerOff_q (s : State) : (timerOff s).q = s.q := rfl
@[simp] theorem timerOff_ctlq (s : State) : (timerOff s).ctlq = s.ctlq := rfl
@[simp] theorem timerOff_xmtq (s : State) : (timerOff s).xmtq = withdrawTimeouts s := rfl
@[simp] theorem timerOff_tmrArmed (s : State) : (timerOff s).tmrArmed = false := rfl
@[simp] theorem timerOff_tmrMs (s : State) : (timerOff s).tmrMs = s.tmrMs := rfl
@[simp] theorem timerOff_txBusy (s : State) : (timerOff s).txBusy = s.txBusy := rfl
@[simp] theorem timerOff_rxArmed (s : State) : (timerOff s).rxArmed = s.rxArmed := rfl
@[simp] theorem timerOff_delivered (s : State) : (timerOff s).delivered = s.delivered := rfl
@[simp] theorem timerOff_trace (s : State) : (timerOff s).trace = s.trace ++ [.timerOff] := rfl
@[simp] theorem timerOff_returned (s : State) : (timerOff s).returned = s.returned := rfl
@[simp] theorem timerOff_freeNext (s : State) : (timerOff s).freeNext = s.freeNext := rfl
@[simp] theorem timerOff_script (s : State) : (timerOff s).script = s.script := rfl
@[simp] theorem timerOff_params (s : State) : (timerOff s).params = s.params := rfl

/-! ### `manTransmit` -/

@[simp] theorem manTransmit_ctlState (s : State) : (manTransmit s).ctlState = s.ctlState := rfl
@[simp] theorem manTransmit_xmtState (s : State) : (manTransmit s).xmtState = s.xmtState := rfl
@[simp] theorem manTransmit_cur (s : State) : (manTransmit s).cur = s.cur := rfl
@[simp] theorem manTransmit_ans (s : State) : (manTransmit s).ans = s.ans := rfl
@[simp] theorem manTransmit_rpt (s : State) : (manTransmit s).rpt = s.rpt := rfl
@[simp] theorem manTransmit_edge (s : State) : (manTransmit s).edge = s.edge := rfl
@[simp] theorem manTransmit_monCnt (s : State) : (manTransmit s).monCnt = s.monCnt := rfl
@[simp] theorem manTransmit_monBad (s : State) : (manTransmit s).monBad = s.monBad := rfl
@[simp] theorem manTransmit_debugMode (s : State) : (manTransmit s).debugMode = s.debugMode := rfl
@[simp] theorem manTransmit_echo0 (s : State) : (manTransmit s).echo0 = s.echo0 := rfl
@[simp] theorem manTransmit_echo1 (s : State) : (manTransmit s).echo1 = s.echo1 := rfl
@[simp] theorem manTransmit_rspbuf0 (s : State) : (manTransmit s).rspbuf0 = s.rspbuf0 := rfl
@[simp] theorem manTransmit_q (s : State) : (manTransmit s).q = s.q := rfl
@[simp] theorem manTransmit_ctlq (s : State) : (manTransmit s).ctlq = s.ctlq := rfl
@[simp] theorem manTransmit_xmtq (s : State) : (manTransmit s).xmtq = s.xmtq := rfl
@[simp] theorem manTransmit_tmrArmed (s : State) : (manTransmit s).tmrArmed = s.tmrArmed := rfl
@[simp] theorem manTransmit_tmrMs (s : State) : (manTransmit s).tmrMs = s.tmrMs := rfl
@[simp] theorem manTransmit_txBusy (s : State) : (manTransmit s).txBusy = true := rfl
@[simp] theorem manTransmit_rxArmed (s : State) : (manTransmit s).rxArmed = s.rxArmed := rfl
@[simp] theorem manTransmit_delivered (s : State) : (manTransmit s).delivered = s.delivered := rfl
@[simp] theorem manTransmit_trace (s : State) :
    (manTransmit s).trace = s.trace ++ [.manTransmit (frameBytes s) s.params.frameLen] := rfl
@[simp] theorem manTransmit_returned (s : State) : (manTransmit s).returned = s.returned := rfl
@[simp] theorem manTransmit_freeNext (s : State) : (manTransmit s).freeNext = s.freeNext := rfl
@[simp] theorem manTransmit_script (s : State) : (manTransmit s).script = s.script := rfl
@[simp] theorem manTransmit_params (s : State) : (manTransmit s).params = s.params := rfl

/-! ### `outputRcvMsg` -/

@[simp] theorem outputRcvMsg_ctlState (m : BusMessage) (s : State) : (outputRcvMsg m s).ctlState = s.ctlState := rfl
@[simp] theorem outputRcvMsg_xmtState (m : BusMessage) (s : State) : (outputRcvMsg m s).xmtState = s.xmtState := rfl
@[simp] theorem outputRcvMsg_cur (m : BusMessage) (s : State) : (outputRcvMsg m s).cur = s.cur := rfl
@[simp] theorem outputRcvMsg_ans (m : BusMessage) (s : State) : (outputRcvMsg m s).ans = s.ans := rfl
@[simp] theorem outputRcvMsg_rpt (m : BusMessage) (s : State) : (outputRcvMsg m s).rpt = s.rpt := rfl
@[simp] theorem outputRcvMsg_edge (m : BusMessage) (s : State) : (outputRcvMsg m s).edge = s.edge := rfl
@[simp] theorem outputRcvMsg_monCnt (m : BusMessage) (s : State) : (outputRcvMsg m s).monCnt = s.monCnt := rfl
@[simp] theorem outputRcvMsg_monBad (m : BusMessage) (s : State) : (outputRcvMsg m s).monBad = s.monBad := rfl
@[simp] theorem outputRcvMsg_debugMode (m : BusMessage) (s : State) :
    (outputRcvMsg m s).debugMode = s.debugMode := rfl
@[simp] theorem outputRcvMsg_echo0 (m : BusMessage) (s : State) : (outputRcvMsg m s).echo0 = s.echo0 := rfl
@[simp] theorem outputRcvMsg_echo1 (m : BusMessage) (s : State) : (outputRcvMsg m s).echo1 = s.echo1 := rfl
@[simp] theorem outputRcvMsg_rspbuf0 (m : BusMessage) (s : State) : (outputRcvMsg m s).rspbuf0 = s.rspbuf0 := rfl
@[simp] theorem outputRcvMsg_q (m : BusMessage) (s : State) : (outputRcvMsg m s).q = s.q := rfl
@[simp] theorem outputRcvMsg_ctlq (m : BusMessage) (s : State) : (outputRcvMsg m s).ctlq = s.ctlq := rfl
@[simp] theorem outputRcvMsg_xmtq (m : BusMessage) (s : State) : (outputRcvMsg m s).xmtq = s.xmtq := rfl
@[simp] theorem outputRcvMsg_tmrArmed (m : BusMessage) (s : State) : (outputRcvMsg m s).tmrArmed = s.tmrArmed := rfl
@[simp] theorem outputRcvMsg_tmrMs (m : BusMessage) (s : State) : (outputRcvMsg m s).tmrMs = s.tmrMs := rfl
@[simp] theorem outputRcvMsg_txBusy (m : BusMessage) (s : State) : (outputRcvMsg m s).txBusy = s.txBusy := rfl
@[simp] theorem outputRcvMsg_rxArmed (m : BusMessage) (s : State) : (outputRcvMsg m s).rxArmed = s.rxArmed := rfl
@[simp] theorem outputRcvMsg_delivered (m : BusMessage) (s : State) :
    (outputRcvMsg m s).delivered = s.delivered ++ [m] := rfl
@[simp] theorem outputRcvMsg_trace (m : BusMessage) (s : State) :
    (outputRcvMsg m s).trace = s.trace ++ [.outputRcvMsg m] := rfl
@[simp] theorem outputRcvMsg_returned (m : BusMessage) (s : State) : (outputRcvMsg m s).returned = s.returned := rfl
@[simp] theorem outputRcvMsg_freeNext (m : BusMessage) (s : State) : (outputRcvMsg m s).freeNext = s.freeNext := rfl
@[simp] theorem outputRcvMsg_script (m : BusMessage) (s : State) : (outputRcvMsg m s).script = s.script := rfl
@[simp] theorem outputRcvMsg_params (m : BusMessage) (s : State) : (outputRcvMsg m s).params = s.params := rfl

/-! ### `setStatus` -/

@[simp] theorem setStatus_ctlState (st : ResultStatus) (s : State) : (setStatus st s).ctlState = s.ctlState := rfl
@[simp] theorem setStatus_xmtState (st : ResultStatus) (s : State) : (setStatus st s).xmtState = s.xmtState := rfl
@[simp] theorem setStatus_cur (st : ResultStatus) (s : State) :
    (setStatus st s).cur = { s.cur with status := st } := rfl
@[simp] theorem setStatus_ans (st : ResultStatus) (s : State) : (setStatus st s).ans = s.ans := rfl
@[simp] theorem setStatus_rpt (st : ResultStatus) (s : State) : (setStatus st s).rpt = s.rpt := rfl
@[simp] theorem setStatus_edge (st : ResultStatus) (s : State) : (setStatus st s).edge = s.edge := rfl
@[simp] theorem setStatus_monCnt (st : ResultStatus) (s : State) : (setStatus st s).monCnt = s.monCnt := rfl
@[simp] theorem setStatus_monBad (st : ResultStatus) (s : State) : (setStatus st s).monBad = s.monBad := rfl
@[simp] theorem setStatus_debugMode (st : ResultStatus) (s : State) : (setStatus st s).debugMode = s.debugMode := rfl
@[simp] theorem setStatus_echo0 (st : ResultStatus) (s : State) : (setStatus st s).echo0 = s.echo0 := rfl
@[simp] theorem setStatus_echo1 (st : ResultStatus) (s : State) : (setStatus st s).echo1 = s.echo1 := rfl
@[simp] theorem setStatus_rspbuf0 (st : ResultStatus) (s : State) : (setStatus st s).rspbuf0 = s.rspbuf0 := rfl
@[simp] theorem setStatus_q (st : ResultStatus) (s : State) : (setStatus st s).q = s.q := rfl
@[simp] theorem setStatus_ctlq (st : ResultStatus) (s : State) : (setStatus st s).ctlq = s.ctlq := rfl
@[simp] theorem setStatus_xmtq (st : ResultStatus) (s : State) : (setStatus st s).xmtq = s.xmtq := rfl
@[simp] theorem setStatus_tmrArmed (st : ResultStatus) (s : State) : (setStatus st s).tmrArmed = s.tmrArmed := rfl
@[simp] theorem setStatus_tmrMs (st : ResultStatus) (s : State) : (setStatus st s).tmrMs = s.tmrMs := rfl
@[simp] theorem setStatus_txBusy (st : ResultStatus) (s : State) : (setStatus st s).txBusy = s.txBusy := rfl
@[simp] theorem setStatus_rxArmed (st : ResultStatus) (s : State) : (setStatus st s).rxArmed = s.rxArmed := rfl
@[simp] theorem setStatus_delivered (st : ResultStatus) (s : State) : (setStatus st s).delivered = s.delivered := rfl
@[simp] theorem setStatus_trace (st : ResultStatus) (s : State) : (setStatus st s).trace = s.trace := rfl
@[simp] theorem setStatus_returned (st : ResultStatus) (s : State) : (setStatus st s).returned = s.returned := rfl
@[simp] theorem setStatus_freeNext (st : ResultStatus) (s : State) : (setStatus st s).freeNext = s.freeNext := rfl
@[simp] theorem setStatus_script (st : ResultStatus) (s : State) : (setStatus st s).script = s.script := rfl
@[simp] theorem setStatus_params (st : ResultStatus) (s : State) : (setStatus st s).params = s.params := rfl

/-! ### `setReturned` -/

@[simp] theorem setReturned_ctlState (r : Returned) (s : State) : (setReturned r s).ctlState = s.ctlState := rfl
@[simp] theorem setReturned_xmtState (r : Returned) (s : State) : (setReturned r s).xmtState = s.xmtState := rfl
@[simp] theorem setReturned_cur (r : Returned) (s : State) : (setReturned r s).cur = s.cur := rfl
@[simp] theorem setReturned_ans (r : Returned) (s : State) : (setReturned r s).ans = s.ans := rfl
@[simp] theorem setReturned_rpt (r : Returned) (s : State) : (setReturned r s).rpt = s.rpt := rfl
@[simp] theorem setReturned_edge (r : Returned) (s : State) : (setReturned r s).edge = s.edge := rfl
@[simp] theorem setReturned_monCnt (r : Returned) (s : State) : (setReturned r s).monCnt = s.monCnt := rfl
@[simp] theorem setReturned_monBad (r : Returned) (s : State) : (setReturned r s).monBad = s.monBad := rfl
@[simp] theorem setReturned_debugMode (r : Returned) (s : State) : (setReturned r s).debugMode = s.debugMode := rfl
@[simp] theorem setReturned_echo0 (r : Returned) (s : State) : (setReturned r s).echo0 = s.echo0 := rfl
@[simp] theorem setReturned_echo1 (r : Returned) (s : State) : (setReturned r s).echo1 = s.echo1 := rfl
@[simp] theorem setReturned_rspbuf0 (r : Returned) (s : State) : (setReturned r s).rspbuf0 = s.rspbuf0 := rfl
@[simp] theorem setReturned_q (r : Returned) (s : State) : (setReturned r s).q = s.q := rfl
@[simp] theorem setReturned_ctlq (r : Returned) (s : State) : (setReturned r s).ctlq = s.ctlq := rfl
@[simp] theorem setReturned_xmtq (r : Returned) (s : State) : (setReturned r s).xmtq = s.xmtq := rfl
@[simp] theorem setReturned_tmrArmed (r : Returned) (s : State) : (setReturned r s).tmrArmed = s.tmrArmed := rfl
@[simp] theorem setReturned_tmrMs (r : Returned) (s : State) : (setReturned r s).tmrMs = s.tmrMs := rfl
@[simp] theorem setReturned_txBusy (r : Returned) (s : State) : (setReturned r s).txBusy = s.txBusy := rfl
@[simp] theorem setReturned_rxArmed (r : Returned) (s : State) : (setReturned r s).rxArmed = s.rxArmed := rfl
@[simp] theorem setReturned_delivered (r : Returned) (s : State) : (setReturned r s).delivered = s.delivered := rfl
@[simp] theorem setReturned_trace (r : Returned) (s : State) : (setReturned r s).trace = s.trace := rfl
@[simp] theorem setReturned_returned (r : Returned) (s : State) : (setReturned r s).returned = r := rfl
@[simp] theorem setReturned_freeNext (r : Returned) (s : State) : (setReturned r s).freeNext = s.freeNext := rfl
@[simp] theorem setReturned_script (r : Returned) (s : State) : (setReturned r s).script = s.script := rfl
@[simp] theorem setReturned_params (r : Returned) (s : State) : (setReturned r s).params = s.params := rfl

/-! ### `monitorTick` -/

@[simp] theorem monitorTick_ctlState (b : Bool) (s : State) : (monitorTick b s).ctlState = s.ctlState := rfl
@[simp] theorem monitorTick_xmtState (b : Bool) (s : State) : (monitorTick b s).xmtState = s.xmtState := rfl
@[simp] theorem monitorTick_cur (b : Bool) (s : State) : (monitorTick b s).cur = s.cur := rfl
@[simp] theorem monitorTick_ans (b : Bool) (s : State) : (monitorTick b s).ans = s.ans := rfl
@[simp] theorem monitorTick_rpt (b : Bool) (s : State) : (monitorTick b s).rpt = s.rpt := rfl
@[simp] theorem monitorTick_edge (b : Bool) (s : State) : (monitorTick b s).edge = s.edge := rfl
@[simp] theorem monitorTick_monCnt (b : Bool) (s : State) :
    (monitorTick b s).monCnt = monCntNext s.params.monThreshold s.monCnt b := rfl
@[simp] theorem monitorTick_monBad (b : Bool) (s : State) :
    (monitorTick b s).monBad = monBadNext s.params.monThreshold (monCntNext s.params.monThreshold s.monCnt b) s.monBad b := rfl
@[simp] theorem monitorTick_debugMode (b : Bool) (s : State) : (monitorTick b s).debugMode = s.debugMode := rfl
@[simp] theorem monitorTick_echo0 (b : Bool) (s : State) : (monitorTick b s).echo0 = s.echo0 := rfl
@[simp] theorem monitorTick_echo1 (b : Bool) (s : State) : (monitorTick b s).echo1 = s.echo1 := rfl
@[simp] theorem monitorTick_rspbuf0 (b : Bool) (s : State) : (monitorTick b s).rspbuf0 = s.rspbuf0 := rfl
@[simp] theorem monitorTick_q (b : Bool) (s : State) : (monitorTick b s).q = s.q := rfl
@[simp] theorem monitorTick_ctlq (b : Bool) (s : State) : (monitorTick b s).ctlq = s.ctlq := rfl
@[simp] theorem monitorTick_xmtq (b : Bool) (s : State) : (monitorTick b s).xmtq = s.xmtq := rfl
@[simp] theorem monitorTick_tmrArmed (b : Bool) (s : State) : (monitorTick b s).tmrArmed = s.tmrArmed := rfl
@[simp] theorem monitorTick_tmrMs (b : Bool) (s : State) : (monitorTick b s).tmrMs = s.tmrMs := rfl
@[simp] theorem monitorTick_txBusy (b : Bool) (s : State) : (monitorTick b s).txBusy = s.txBusy := rfl
@[simp] theorem monitorTick_rxArmed (b : Bool) (s : State) : (monitorTick b s).rxArmed = s.rxArmed := rfl
@[simp] theorem monitorTick_delivered (b : Bool) (s : State) : (monitorTick b s).delivered = s.delivered := rfl
@[simp] theorem monitorTick_trace (b : Bool) (s : State) :
    (monitorTick b s).trace = s.trace ++ [.getBusState b] := rfl
@[simp] theorem monitorTick_returned (b : Bool) (s : State) : (monitorTick b s).returned = s.returned := rfl
@[simp] theorem monitorTick_freeNext (b : Bool) (s : State) : (monitorTick b s).freeNext = s.freeNext := rfl
@[simp] theorem monitorTick_script (b : Bool) (s : State) : (monitorTick b s).script = s.script := rfl
@[simp] theorem monitorTick_params (b : Bool) (s : State) : (monitorTick b s).params = s.params := rfl

/-! ### `classifyCurrent` -/

@[simp] theorem classifyCurrent_ctlState (s : State) : (classifyCurrent s).ctlState = s.ctlState := rfl
@[simp] theorem classifyCurrent_xmtState (s : State) : (classifyCurrent s).xmtState = s.xmtState := rfl
@[simp] theorem classifyCurrent_cur (s : State) : (classifyCurrent s).cur = s.cur := rfl
@[simp] theorem classifyCurrent_ans (s : State) :
    (classifyCurrent s).ans = classifyAnswer s.params.opc s.cur.addr s.cur.data s.debugMode := rfl
@[simp] theorem classifyCurrent_rpt (s : State) :
    (classifyCurrent s).rpt = classifyRepeat s.params.opc s.cur.addr s.cur.data := rfl
@[simp] theorem classifyCurrent_edge (s : State) : (classifyCurrent s).edge = s.edge := rfl
@[simp] theorem classifyCurrent_monCnt (s : State) : (classifyCurrent s).monCnt = s.monCnt := rfl
@[simp] theorem classifyCurrent_monBad (s : State) : (classifyCurrent s).monBad = s.monBad := rfl
@[simp] theorem classifyCurrent_debugMode (s : State) : (classifyCurrent s).debugMode = s.debugMode := rfl
@[simp] theorem classifyCurrent_echo0 (s : State) : (classifyCurrent s).echo0 = s.echo0 := rfl
@[simp] theorem classifyCurrent_echo1 (s : State) : (classifyCurrent s).echo1 = s.echo1 := rfl
@[simp] theorem classifyCurrent_rspbuf0 (s : State) : (classifyCurrent s).rspbuf0 = s.rspbuf0 := rfl
@[simp] theorem classifyCurrent_q (s : State) : (classifyCurrent s).q = s.q := rfl
@[simp] theorem classifyCurrent_ctlq (s : State) : (classifyCurrent s).ctlq = s.ctlq := rfl
@[simp] theorem classifyCurrent_xmtq (s : State) : (classifyCurrent s).xmtq = s.xmtq := rfl
@[simp] theorem classifyCurrent_tmrArmed (s : State) : (classifyCurrent s).tmrArmed = s.tmrArmed := rfl
@[simp] theorem classifyCurrent_tmrMs (s : State) : (classifyCurrent s).tmrMs = s.tmrMs := rfl
@[simp] theorem classifyCurrent_txBusy (s : State) : (classifyCurrent s).txBusy = s.txBusy := rfl
@[simp] theorem classifyCurrent_rxArmed (s : State) : (classifyCurrent s).rxArmed = s.rxArmed := rfl
@[simp] theorem classifyCurrent_delivered (s : State) : (classifyCurrent s).delivered = s.delivered := rfl
@[simp] theorem classifyCurrent_trace (s : State) : (classifyCurrent s).trace = s.trace := rfl
@[simp] theorem classifyCurrent_returned (s : State) : (classifyCurrent s).returned = s.returned := rfl
@[simp] theorem classifyCurrent_freeNext (s : State) : (classifyCurrent s).freeNext = s.freeNext := rfl
@[simp] theorem classifyCurrent_script (s : State) : (classifyCurrent s).script = s.script := rfl
@[simp] theorem classifyCurrent_params (s : State) : (classifyCurrent s).params = s.params := rfl

/-! ### `copyResponse` -/

@[simp] theorem copyResponse_ctlState (s : State) : (copyResponse s).ctlState = s.ctlState := rfl
@[simp] theorem copyResponse_xmtState (s : State) : (copyResponse s).xmtState = s.xmtState := rfl
@[simp] theorem copyResponse_cur (s : State) : (copyResponse s).cur = { s.cur with rsp := s.rspbuf0 } := rfl
@[simp] theorem copyResponse_ans (s : State) : (copyResponse s).ans = s.ans := rfl
@[simp] theorem copyResponse_rpt (s : State) : (copyResponse s).rpt = s.rpt := rfl
@[simp] theorem copyResponse_edge (s : State) : (copyResponse s).edge = s.edge := rfl
@[simp] theorem copyResponse_monCnt (s : State) : (copyResponse s).monCnt = s.monCnt := rfl
@[simp] theorem copyResponse_monBad (s : State) : (copyResponse s).monBad = s.monBad := rfl
@[simp] theorem copyResponse_debugMode (s : State) : (copyResponse s).debugMode = s.debugMode := rfl
@[simp] theorem copyResponse_echo0 (s : State) : (copyResponse s).echo0 = s.echo0 := rfl
@[simp] theorem copyResponse_echo1 (s : State) : (copyResponse s).echo1 = s.echo1 := rfl
@[simp] theorem copyResponse_rspbuf0 (s : State) : (copyResponse s).rspbuf0 = s.rspbuf0 := rfl
@[simp] theorem copyResponse_q (s : State) : (copyResponse s).q = s.q := rfl
@[simp] theorem copyResponse_ctlq (s : State) : (copyResponse s).ctlq = s.ctlq := rfl
@[simp] theorem copyResponse_xmtq (s : State) : (copyResponse s).xmtq = s.xmtq := rfl
@[simp] theorem copyResponse_tmrArmed (s : State) : (copyResponse s).tmrArmed = s.tmrArmed := rfl
@[simp] theorem copyResponse_tmrMs (s : State) : (copyResponse s).tmrMs = s.tmrMs := rfl
@[simp] theorem copyResponse_txBusy (s : State) : (copyResponse s).txBusy = s.txBusy := rfl
@[simp] theorem copyResponse_rxArmed (s : State) : (copyResponse s).rxArmed = s.rxArmed := rfl
@[simp] theorem copyResponse_delivered (s : State) : (copyResponse s).delivered = s.delivered := rfl
@[simp] theorem copyResponse_trace (s : State) : (copyResponse s).trace = s.trace := rfl
@[simp] theorem copyResponse_returned (s : State) : (copyResponse s).returned = s.returned := rfl
@[simp] theorem copyResponse_freeNext (s : State) : (copyResponse s).freeNext = s.freeNext := rfl
@[simp] theorem copyResponse_script (s : State) : (copyResponse s).script = s.script := rfl
@[simp] theorem copyResponse_params (s : State) : (copyResponse s).params = s.params := rfl

/-! ### `envPostXmt` -/

@[simp] theorem envPostXmt_ctlState (e : XmtEvt) (s : State) : (envPostXmt e s).ctlState = s.ctlState := rfl
@[simp] theorem envPostXmt_xmtState (e : XmtEvt) (s : State) : (envPostXmt e s).xmtState = s.xmtState := rfl
@[simp] theorem envPostXmt_cur (e : XmtEvt) (s : State) : (envPostXmt e s).cur = s.cur := rfl
@[simp] theorem envPostXmt_ans (e : XmtEvt) (s : State) : (envPostXmt e s).ans = s.ans := rfl
@[simp] theorem envPostXmt_rpt (e : XmtEvt) (s : State) : (envPostXmt e s).rpt = s.rpt := rfl
@[simp] theorem envPostXmt_edge (e : XmtEvt) (s : State) : (envPostXmt e s).edge = s.edge := rfl
@[simp] theorem envPostXmt_monCnt (e : XmtEvt) (s : State) : (envPostXmt e s).monCnt = s.monCnt := rfl
@[simp] theorem envPostXmt_monBad (e : XmtEvt) (s : State) : (envPostXmt e s).monBad = s.monBad := rfl
@[simp] theorem envPostXmt_debugMode (e : XmtEvt) (s : State) : (envPostXmt e s).debugMode = s.debugMode := rfl
@[simp] theorem envPostXmt_echo0 (e : XmtEvt) (s : State) : (envPostXmt e s).echo0 = s.echo0 := rfl
@[simp] theorem envPostXmt_echo1 (e : XmtEvt) (s : State) : (envPostXmt e s).echo1 = s.echo1 := rfl
@[simp] theorem envPostXmt_rspbuf0 (e : XmtEvt) (s : State) : (envPostXmt e s).rspbuf0 = s.rspbuf0 := rfl
@[simp] theorem envPostXmt_q (e : XmtEvt) (s : State) : (envPostXmt e s).q = s.q := rfl
@[simp] theorem envPostXmt_ctlq (e : XmtEvt) (s : State) : (envPostXmt e s).ctlq = s.ctlq := rfl
@[simp] theorem envPostXmt_xmtq (e : XmtEvt) (s : State) : (envPostXmt e s).xmtq = s.xmtq ++ [e] := rfl
@[simp] theorem envPostXmt_tmrArmed (e : XmtEvt) (s : State) : (envPostXmt e s).tmrArmed = s.tmrArmed := rfl
@[simp] theorem envPostXmt_tmrMs (e : XmtEvt) (s : State) : (envPostXmt e s).tmrMs = s.tmrMs := rfl
@[simp] theorem envPostXmt_txBusy (e : XmtEvt) (s : State) : (envPostXmt e s).txBusy = s.txBusy := rfl
@[simp] theorem envPostXmt_rxArmed (e : XmtEvt) (s : State) : (envPostXmt e s).rxArmed = s.rxArmed := rfl
@[simp] theorem envPostXmt_delivered (e : XmtEvt) (s : State) : (envPostXmt e s).delivered = s.delivered := rfl
@[simp] theorem envPostXmt_trace (e : XmtEvt) (s : State) : (envPostXmt e s).trace = s.trace := rfl
@[simp] theorem envPostXmt_returned (e : XmtEvt) (s : State) : (envPostXmt e s).returned = s.returned := rfl
@[simp] theorem envPostXmt_freeNext (e : XmtEvt) (s : State) : (envPostXmt e s).freeNext = s.freeNext := rfl
@[simp] theorem envPostXmt_script (e : XmtEvt) (s : State) : (envPostXmt e s).script = s.script := rfl
@[simp] theorem envPostXmt_params (e : XmtEvt) (s : State) : (envPostXmt e s).params = s.params := rfl

/-! ### `expand` -/

@[simp] theorem expand_ctlState (ls : List Line) (s : State) : (expand ls s).ctlState = s.ctlState := rfl
@[simp] theorem expand_xmtState (ls : List Line) (s : State) : (expand ls s).xmtState = s.xmtState := rfl
@[simp] theorem expand_cur (ls : List Line) (s : State) : (expand ls s).cur = s.cur := rfl
@[simp] theorem expand_ans (ls : List Line) (s : State) : (expand ls s).ans = s.ans := rfl
@[simp] theorem expand_rpt (ls : List Line) (s : State) : (expand ls s).rpt = s.rpt := rfl
@[simp] theorem expand_edge (ls : List Line) (s : State) : (expand ls s).edge = s.edge := rfl
@[simp] theorem expand_monCnt (ls : List Line) (s : State) : (expand ls s).monCnt = s.monCnt := rfl
@[simp] theorem expand_monBad (ls : List Line) (s : State) : (expand ls s).monBad = s.monBad := rfl
@[simp] theorem expand_debugMode (ls : List Line) (s : State) : (expand ls s).debugMode = s.debugMode := rfl
@[simp] theorem expand_echo0 (ls : List Line) (s : State) : (expand ls s).echo0 = s.echo0 := rfl
@[simp] theorem expand_echo1 (ls : List Line) (s : State) : (expand ls s).echo1 = s.echo1 := rfl
@[simp] theorem expand_rspbuf0 (ls : List Line) (s : State) : (expand ls s).rspbuf0 = s.rspbuf0 := rfl
@[simp] theorem expand_q (ls : List Line) (s : State) : (expand ls s).q = s.q := rfl
@[simp] theorem expand_ctlq (ls : List Line) (s : State) : (expand ls s).ctlq = s.ctlq := rfl
@[simp] theorem expand_xmtq (ls : List Line) (s : State) : (expand ls s).xmtq = s.xmtq := rfl
@[simp] theorem expand_tmrArmed (ls : List Line) (s : State) : (expand ls s).tmrArmed = s.tmrArmed := rfl
@[simp] theorem expand_tmrMs (ls : List Line) (s : State) : (expand ls s).tmrMs = s.tmrMs := rfl
@[simp] theorem expand_txBusy (ls : List Line) (s : State) : (expand ls s).txBusy = s.txBusy := rfl
@[simp] theorem expand_rxArmed (ls : List Line) (s : State) : (expand ls s).rxArmed = s.rxArmed := rfl
@[simp] theorem expand_delivered (ls : List Line) (s : State) : (expand ls s).delivered = s.delivered := rfl
@[simp] theorem expand_trace (ls : List Line) (s : State) : (expand ls s).trace = s.trace := rfl
@[simp] theorem expand_returned (ls : List Line) (s : State) : (expand ls s).returned = s.returned := rfl
@[simp] theorem expand_freeNext (ls : List Line) (s : State) : (expand ls s).freeNext = s.freeNext := rfl
@[simp] theorem expand_script (ls : List Line) (s : State) : (expand ls s).script = ls ++ s.script := rfl
@[simp] theorem expand_params (ls : List Line) (s : State) : (expand ls s).params = s.params := rfl

/-! ### `surrender` -/

@[simp] theorem surrender_ctlState (b : RxBuf) (s : State) :
    (surrender b s).ctlState = s.ctlState := by cases b <;> rfl
@[simp] theorem surrender_xmtState (b : RxBuf) (s : State) :
    (surrender b s).xmtState = s.xmtState := by cases b <;> rfl
@[simp] theorem surrender_cur (b : RxBuf) (s : State) : (surrender b s).cur = s.cur := by cases b <;> rfl
@[simp] theorem surrender_ans (b : RxBuf) (s : State) : (surrender b s).ans = s.ans := by cases b <;> rfl
@[simp] theorem surrender_rpt (b : RxBuf) (s : State) : (surrender b s).rpt = s.rpt := by cases b <;> rfl
@[simp] theorem surrender_edge (b : RxBuf) (s : State) : (surrender b s).edge = s.edge := by cases b <;> rfl
@[simp] theorem surrender_monCnt (b : RxBuf) (s : State) : (surrender b s).monCnt = s.monCnt := by cases b <;> rfl
@[simp] theorem surrender_monBad (b : RxBuf) (s : State) : (surrender b s).monBad = s.monBad := by cases b <;> rfl
@[simp] theorem surrender_debugMode (b : RxBuf) (s : State) :
    (surrender b s).debugMode = s.debugMode := by cases b <;> rfl
@[simp] theorem surrender_q (b : RxBuf) (s : State) : (surrender b s).q = s.q := by cases b <;> rfl
@[simp] theorem surrender_ctlq (b : RxBuf) (s : State) : (surrender b s).ctlq = s.ctlq := by cases b <;> rfl
@[simp] theorem surrender_xmtq (b : RxBuf) (s : State) : (surrender b s).xmtq = s.xmtq := by cases b <;> rfl
@[simp] theorem surrender_tmrArmed (b : RxBuf) (s : State) :
    (surrender b s).tmrArmed = s.tmrArmed := by cases b <;> rfl
@[simp] theorem surrender_tmrMs (b : RxBuf) (s : State) : (surrender b s).tmrMs = s.tmrMs := by cases b <;> rfl
@[simp] theorem surrender_txBusy (b : RxBuf) (s : State) : (surrender b s).txBusy = s.txBusy := by cases b <;> rfl
@[simp] theorem surrender_rxArmed (b : RxBuf) (s : State) : (surrender b s).rxArmed = s.rxArmed := by cases b <;> rfl
@[simp] theorem surrender_delivered (b : RxBuf) (s : State) :
    (surrender b s).delivered = s.delivered := by cases b <;> rfl
@[simp] theorem surrender_trace (b : RxBuf) (s : State) : (surrender b s).trace = s.trace := by cases b <;> rfl
@[simp] theorem surrender_returned (b : RxBuf) (s : State) :
    (surrender b s).returned = s.returned := by cases b <;> rfl
@[simp] theorem surrender_script (b : RxBuf) (s : State) : (surrender b s).script = s.script := by cases b <;> rfl
@[simp] theorem surrender_params (b : RxBuf) (s : State) : (surrender b s).params = s.params := by cases b <;> rfl

/-! ### `manReceive` -/

@[simp] theorem manReceive_ctlState (b : RxBuf) (n : Nat) (s : State) :
    (manReceive b n s).ctlState = s.ctlState := by cases b <;> rfl
@[simp] theorem manReceive_xmtState (b : RxBuf) (n : Nat) (s : State) :
    (manReceive b n s).xmtState = s.xmtState := by cases b <;> rfl
@[simp] theorem manReceive_cur (b : RxBuf) (n : Nat) (s : State) :
    (manReceive b n s).cur = s.cur := by cases b <;> rfl
@[simp] theorem manReceive_ans (b : RxBuf) (n : Nat) (s : State) :
    (manReceive b n s).ans = s.ans := by cases b <;> rfl
@[simp] theorem manReceive_rpt (b : RxBuf) (n : Nat) (s : State) :
    (manReceive b n s).rpt = s.rpt := by cases b <;> rfl
@[simp] theorem manReceive_edge (b : RxBuf) (n : Nat) (s : State) :
    (manReceive b n s).edge = s.edge := by cases b <;> rfl
@[simp] theorem manReceive_monCnt (b : RxBuf) (n : Nat) (s : State) :
    (manReceive b n s).monCnt = s.monCnt := by cases b <;> rfl
@[simp] theorem manReceive_monBad (b : RxBuf) (n : Nat) (s : State) :
    (manReceive b n s).monBad = s.monBad := by cases b <;> rfl
@[simp] theorem manReceive_debugMode (b : RxBuf) (n : Nat) (s : State) :
    (manReceive b n s).debugMode = s.debugMode := by cases b <;> rfl
@[simp] theorem manReceive_q (b : RxBuf) (n : Nat) (s : State) : (manReceive b n s).q = s.q := by cases b <;> rfl
@[simp] theorem manReceive_ctlq (b : RxBuf) (n : Nat) (s : State) :
    (manReceive b n s).ctlq = s.ctlq := by cases b <;> rfl
@[simp] theorem manReceive_xmtq (b : RxBuf) (n : Nat) (s : State) :
    (manReceive b n s).xmtq = s.xmtq := by cases b <;> rfl
@[simp] theorem manReceive_tmrArmed (b : RxBuf) (n : Nat) (s : State) :
    (manReceive b n s).tmrArmed = s.tmrArmed := by cases b <;> rfl
@[simp] theorem manReceive_tmrMs (b : RxBuf) (n : Nat) (s : State) :
    (manReceive b n s).tmrMs = s.tmrMs := by cases b <;> rfl
@[simp] theorem manReceive_txBusy (b : RxBuf) (n : Nat) (s : State) :
    (manReceive b n s).txBusy = s.txBusy := by cases b <;> rfl
@[simp] theorem manReceive_rxArmed (b : RxBuf) (n : Nat) (s : State) :
    (manReceive b n s).rxArmed = some (b, n) := by cases b <;> rfl
@[simp] theorem manReceive_delivered (b : RxBuf) (n : Nat) (s : State) :
    (manReceive b n s).delivered = s.delivered := by cases b <;> rfl
@[simp] theorem manReceive_trace (b : RxBuf) (n : Nat) (s : State) :
    (manReceive b n s).trace = s.trace ++ [.manReceive b n] := by cases b <;> rfl
@[simp] theorem manReceive_returned (b : RxBuf) (n : Nat) (s : State) :
    (manReceive b n s).returned = s.returned := by cases b <;> rfl
@[simp] theorem manReceive_script (b : RxBuf) (n : Nat) (s : State) :
    (manReceive b n s).script = s.script := by cases b <;> rfl
@[simp] theorem manReceive_params (b : RxBuf) (n : Nat) (s : State) :
    (manReceive b n s).params = s.params := by cases b <;> rfl

/-! ### `memWrite` -/

@[simp] theorem memWrite_ctlState (a : ByteAddr) (v : Byte) (s : State) :
    (memWrite a v s).ctlState = s.ctlState := by cases a <;> rfl
@[simp] theorem memWrite_xmtState (a : ByteAddr) (v : Byte) (s : State) :
    (memWrite a v s).xmtState = s.xmtState := by cases a <;> rfl
@[simp] theorem memWrite_cur (a : ByteAddr) (v : Byte) (s : State) :
    (memWrite a v s).cur = s.cur := by cases a <;> rfl
@[simp] theorem memWrite_ans (a : ByteAddr) (v : Byte) (s : State) :
    (memWrite a v s).ans = s.ans := by cases a <;> rfl
@[simp] theorem memWrite_rpt (a : ByteAddr) (v : Byte) (s : State) :
    (memWrite a v s).rpt = s.rpt := by cases a <;> rfl
@[simp] theorem memWrite_edge (a : ByteAddr) (v : Byte) (s : State) :
    (memWrite a v s).edge = s.edge := by cases a <;> rfl
@[simp] theorem memWrite_monCnt (a : ByteAddr) (v : Byte) (s : State) :
    (memWrite a v s).monCnt = s.monCnt := by cases a <;> rfl
@[simp] theorem memWrite_monBad (a : ByteAddr) (v : Byte) (s : State) :
    (memWrite a v s).monBad = s.monBad := by cases a <;> rfl
@[simp] theorem memWrite_debugMode (a : ByteAddr) (v : Byte) (s : State) :
    (memWrite a v s).debugMode = s.debugMode := by cases a <;> rfl
@[simp] theorem memWrite_q (a : ByteAddr) (v : Byte) (s : State) : (memWrite a v s).q = s.q := by cases a <;> rfl
@[simp] theorem memWrite_ctlq (a : ByteAddr) (v : Byte) (s : State) :
    (memWrite a v s).ctlq = s.ctlq := by cases a <;> rfl
@[simp] theorem memWrite_xmtq (a : ByteAddr) (v : Byte) (s : State) :
    (memWrite a v s).xmtq = s.xmtq := by cases a <;> rfl
@[simp] theorem memWrite_tmrArmed (a : ByteAddr) (v : Byte) (s : State) :
    (memWrite a v s).tmrArmed = s.tmrArmed := by cases a <;> rfl
@[simp] theorem memWrite_tmrMs (a : ByteAddr) (v : Byte) (s : State) :
    (memWrite a v s).tmrMs = s.tmrMs := by cases a <;> rfl
@[simp] theorem memWrite_txBusy (a : ByteAddr) (v : Byte) (s : State) :
    (memWrite a v s).txBusy = s.txBusy := by cases a <;> rfl
@[simp] theorem memWrite_rxArmed (a : ByteAddr) (v : Byte) (s : State) :
    (memWrite a v s).rxArmed = s.rxArmed := by cases a <;> rfl
@[simp] theorem memWrite_delivered (a : ByteAddr) (v : Byte) (s : State) :
    (memWrite a v s).delivered = s.delivered := by cases a <;> rfl
@[simp] theorem memWrite_trace (a : ByteAddr) (v : Byte) (s : State) :
    (memWrite a v s).trace = s.trace := by cases a <;> rfl
@[simp] theorem memWrite_returned (a : ByteAddr) (v : Byte) (s : State) :
    (memWrite a v s).returned = s.returned := by cases a <;> rfl
@[simp] theorem memWrite_freeNext (a : ByteAddr) (v : Byte) (s : State) :
    (memWrite a v s).freeNext = s.freeNext := by cases a <;> rfl
@[simp] theorem memWrite_script (a : ByteAddr) (v : Byte) (s : State) :
    (memWrite a v s).script = s.script := by cases a <;> rfl
@[simp] theorem memWrite_params (a : ByteAddr) (v : Byte) (s : State) :
    (memWrite a v s).params = s.params := by cases a <;> rfl

/-! ### `manAbortReceive` -/

@[simp] theorem manAbortReceive_ctlState (s : State) :
    (manAbortReceive s).ctlState = s.ctlState := by unfold manAbortReceive; split <;> simp_all
@[simp] theorem manAbortReceive_xmtState (s : State) :
    (manAbortReceive s).xmtState = s.xmtState := by unfold manAbortReceive; split <;> simp_all
@[simp] theorem manAbortReceive_cur (s : State) :
    (manAbortReceive s).cur = s.cur := by unfold manAbortReceive; split <;> simp_all
@[simp] theorem manAbortReceive_ans (s : State) :
    (manAbortReceive s).ans = s.ans := by unfold manAbortReceive; split <;> simp_all
@[simp] theorem manAbortReceive_rpt (s : State) :
    (manAbortReceive s).rpt = s.rpt := by unfold manAbortReceive; split <;> simp_all
@[simp] theorem manAbortReceive_edge (s : State) :
    (manAbortReceive s).edge = s.edge := by unfold manAbortReceive; split <;> simp_all
@[simp] theorem manAbortReceive_monCnt (s : State) :
    (manAbortReceive s).monCnt = s.monCnt := by unfold manAbortReceive; split <;> simp_all
@[simp] theorem manAbortReceive_monBad (s : State) :
    (manAbortReceive s).monBad = s.monBad := by unfold manAbortReceive; split <;> simp_all
@[simp] theorem manAbortReceive_debugMode (s : State) :
    (manAbortReceive s).debugMode = s.debugMode := by unfold manAbortReceive; split <;> simp_all
@[simp] theorem manAbortReceive_q (s : State) :
    (manAbortReceive s).q = s.q := by unfold manAbortReceive; split <;> simp_all
@[simp] theorem manAbortReceive_ctlq (s : State) :
    (manAbortReceive s).ctlq = s.ctlq := by unfold manAbortReceive; split <;> simp_all
@[simp] theorem manAbortReceive_xmtq (s : State) :
    (manAbortReceive s).xmtq = s.xmtq := by unfold manAbortReceive; split <;> simp_all
@[simp] theorem manAbortReceive_tmrArmed (s : State) :
    (manAbortReceive s).tmrArmed = s.tmrArmed := by unfold manAbortReceive; split <;> simp_all
@[simp] theorem manAbortReceive_tmrMs (s : State) :
    (manAbortReceive s).tmrMs = s.tmrMs := by unfold manAbortReceive; split <;> simp_all
@[simp] theorem manAbortReceive_txBusy (s : State) :
    (manAbortReceive s).txBusy = s.txBusy := by unfold manAbortReceive; split <;> simp_all
@[simp] theorem manAbortReceive_rxArmed (s : State) :
    (manAbortReceive s).rxArmed = none := by unfold manAbortReceive; split <;> simp_all
@[simp] theorem manAbortReceive_delivered (s : State) :
    (manAbortReceive s).delivered = s.delivered := by unfold manAbortReceive; split <;> simp_all
@[simp] theorem manAbortReceive_trace (s : State) :
    (manAbortReceive s).trace = s.trace ++ [.manAbortReceive] := by unfold manAbortReceive; split <;> simp_all
@[simp] theorem manAbortReceive_returned (s : State) :
    (manAbortReceive s).returned = s.returned := by unfold manAbortReceive; split <;> simp_all
@[simp] theorem manAbortReceive_script (s : State) :
    (manAbortReceive s).script = s.script := by unfold manAbortReceive; split <;> simp_all
@[simp] theorem manAbortReceive_params (s : State) :
    (manAbortReceive s).params = s.params := by unfold manAbortReceive; split <;> simp_all

/-! ### `startFrame` -/

@[simp] theorem startFrame_ctlState (s : State) : (startFrame s).ctlState = s.ctlState := rfl
@[simp] theorem startFrame_xmtState (s : State) : (startFrame s).xmtState = s.xmtState := rfl
@[simp] theorem startFrame_cur (s : State) : (startFrame s).cur = s.cur := rfl
@[simp] theorem startFrame_ans (s : State) : (startFrame s).ans = s.ans := rfl
@[simp] theorem startFrame_rpt (s : State) : (startFrame s).rpt = s.rpt := rfl
@[simp] theorem startFrame_edge (s : State) : (startFrame s).edge = s.edge := rfl
@[simp] theorem startFrame_monCnt (s : State) : (startFrame s).monCnt = s.monCnt := rfl
@[simp] theorem startFrame_monBad (s : State) : (startFrame s).monBad = s.monBad := rfl
@[simp] theorem startFrame_debugMode (s : State) : (startFrame s).debugMode = s.debugMode := rfl
@[simp] theorem startFrame_rspbuf0 (s : State) : (startFrame s).rspbuf0 = s.rspbuf0 := rfl
@[simp] theorem startFrame_q (s : State) : (startFrame s).q = s.q := rfl
@[simp] theorem startFrame_ctlq (s : State) : (startFrame s).ctlq = s.ctlq := rfl
@[simp] theorem startFrame_xmtq (s : State) : (startFrame s).xmtq = withdrawTimeouts s := rfl
@[simp] theorem startFrame_tmrArmed (s : State) : (startFrame s).tmrArmed = true := rfl
@[simp] theorem startFrame_tmrMs (s : State) : (startFrame s).tmrMs = s.params.tEchoMs := rfl
@[simp] theorem startFrame_txBusy (s : State) : (startFrame s).txBusy = true := rfl
@[simp] theorem startFrame_rxArmed (s : State) : (startFrame s).rxArmed = some (.echo, s.params.frameLen) := rfl
@[simp] theorem startFrame_delivered (s : State) : (startFrame s).delivered = s.delivered := rfl
@[simp] theorem startFrame_returned (s : State) : (startFrame s).returned = s.returned := rfl
@[simp] theorem startFrame_script (s : State) : (startFrame s).script = s.script := rfl
@[simp] theorem startFrame_params (s : State) : (startFrame s).params = s.params := rfl

/-! ### `enterWaitRcvDone` -/

@[simp] theorem enterWaitRcvDone_ctlState (s : State) : (enterWaitRcvDone s).ctlState = s.ctlState := rfl
@[simp] theorem enterWaitRcvDone_xmtState (s : State) : (enterWaitRcvDone s).xmtState = s.xmtState := rfl
@[simp] theorem enterWaitRcvDone_cur (s : State) :
    (enterWaitRcvDone s).cur = { s.cur with status := .rcvTimeout } := rfl
@[simp] theorem enterWaitRcvDone_ans (s : State) : (enterWaitRcvDone s).ans = s.ans := rfl
@[simp] theorem enterWaitRcvDone_rpt (s : State) : (enterWaitRcvDone s).rpt = s.rpt := rfl
@[simp] theorem enterWaitRcvDone_edge (s : State) : (enterWaitRcvDone s).edge = false := rfl
@[simp] theorem enterWaitRcvDone_monCnt (s : State) : (enterWaitRcvDone s).monCnt = s.monCnt := rfl
@[simp] theorem enterWaitRcvDone_monBad (s : State) : (enterWaitRcvDone s).monBad = s.monBad := rfl
@[simp] theorem enterWaitRcvDone_debugMode (s : State) : (enterWaitRcvDone s).debugMode = s.debugMode := rfl
@[simp] theorem enterWaitRcvDone_echo0 (s : State) : (enterWaitRcvDone s).echo0 = s.echo0 := rfl
@[simp] theorem enterWaitRcvDone_echo1 (s : State) : (enterWaitRcvDone s).echo1 = s.echo1 := rfl
@[simp] theorem enterWaitRcvDone_q (s : State) : (enterWaitRcvDone s).q = s.q := rfl
@[simp] theorem enterWaitRcvDone_ctlq (s : State) : (enterWaitRcvDone s).ctlq = s.ctlq := rfl
@[simp] theorem enterWaitRcvDone_xmtq (s : State) : (enterWaitRcvDone s).xmtq = withdrawTimeouts s := rfl
@[simp] theorem enterWaitRcvDone_tmrArmed (s : State) : (enterWaitRcvDone s).tmrArmed = true := rfl
@[simp] theorem enterWaitRcvDone_tmrMs (s : State) : (enterWaitRcvDone s).tmrMs = s.params.tRcvMs := rfl
@[simp] theorem enterWaitRcvDone_txBusy (s : State) : (enterWaitRcvDone s).txBusy = s.txBusy := rfl
@[simp] theorem enterWaitRcvDone_rxArmed (s : State) :
    (enterWaitRcvDone s).rxArmed = some (.rspbuf, s.params.rspLen) := rfl
@[simp] theorem enterWaitRcvDone_delivered (s : State) : (enterWaitRcvDone s).delivered = s.delivered := rfl
@[simp] theorem enterWaitRcvDone_returned (s : State) : (enterWaitRcvDone s).returned = s.returned := rfl
@[simp] theorem enterWaitRcvDone_script (s : State) : (enterWaitRcvDone s).script = s.script := rfl
@[simp] theorem enterWaitRcvDone_params (s : State) : (enterWaitRcvDone s).params = s.params := rfl

/-! ### `storeBytes` -/

@[simp] theorem storeBytes_ctlState (b : RxBuf) (i : Nat) (bs : List Byte) (s : State) :
    (storeBytes b i bs s).ctlState = s.ctlState := by
  induction bs generalizing i s with
  | nil => rfl
  | cons v rest ih => unfold storeBytes; split <;> simp [*]

@[simp] theorem storeBytes_xmtState (b : RxBuf) (i : Nat) (bs : List Byte) (s : State) :
    (storeBytes b i bs s).xmtState = s.xmtState := by
  induction bs generalizing i s with
  | nil => rfl
  | cons v rest ih => unfold storeBytes; split <;> simp [*]

@[simp] theorem storeBytes_cur (b : RxBuf) (i : Nat) (bs : List Byte) (s : State) :
    (storeBytes b i bs s).cur = s.cur := by
  induction bs generalizing i s with
  | nil => rfl
  | cons v rest ih => unfold storeBytes; split <;> simp [*]

@[simp] theorem storeBytes_ans (b : RxBuf) (i : Nat) (bs : List Byte) (s : State) :
    (storeBytes b i bs s).ans = s.ans := by
  induction bs generalizing i s with
  | nil => rfl
  | cons v rest ih => unfold storeBytes; split <;> simp [*]

@[simp] theorem storeBytes_rpt (b : RxBuf) (i : Nat) (bs : List Byte) (s : State) :
    (storeBytes b i bs s).rpt = s.rpt := by
  induction bs generalizing i s with
  | nil => rfl
  | cons v rest ih => unfold storeBytes; split <;> simp [*]

@[simp] theorem storeBytes_edge (b : RxBuf) (i : Nat) (bs : List Byte) (s : State) :
    (storeBytes b i bs s).edge = s.edge := by
  induction bs generalizing i s with
  | nil => rfl
  | cons v rest ih => unfold storeBytes; split <;> simp [*]

@[simp] theorem storeBytes_monCnt (b : RxBuf) (i : Nat) (bs : List Byte) (s : State) :
    (storeBytes b i bs s).monCnt = s.monCnt := by
  induction bs generalizing i s with
  | nil => rfl
  | cons v rest ih => unfold storeBytes; split <;> simp [*]

@[simp] theorem storeBytes_monBad (b : RxBuf) (i : Nat) (bs : List Byte) (s : State) :
    (storeBytes b i bs s).monBad = s.monBad := by
  induction bs generalizing i s with
  | nil => rfl
  | cons v rest ih => unfold storeBytes; split <;> simp [*]

@[simp] theorem storeBytes_debugMode (b : RxBuf) (i : Nat) (bs : List Byte) (s : State) :
    (storeBytes b i bs s).debugMode = s.debugMode := by
  induction bs generalizing i s with
  | nil => rfl
  | cons v rest ih => unfold storeBytes; split <;> simp [*]

@[simp] theorem storeBytes_q (b : RxBuf) (i : Nat) (bs : List Byte) (s : State) :
    (storeBytes b i bs s).q = s.q := by
  induction bs generalizing i s with
  | nil => rfl
  | cons v rest ih => unfold storeBytes; split <;> simp [*]

@[simp] theorem storeBytes_ctlq (b : RxBuf) (i : Nat) (bs : List Byte) (s : State) :
    (storeBytes b i bs s).ctlq = s.ctlq := by
  induction bs generalizing i s with
  | nil => rfl
  | cons v rest ih => unfold storeBytes; split <;> simp [*]

@[simp] theorem storeBytes_xmtq (b : RxBuf) (i : Nat) (bs : List Byte) (s : State) :
    (storeBytes b i bs s).xmtq = s.xmtq := by
  induction bs generalizing i s with
  | nil => rfl
  | cons v rest ih => unfold storeBytes; split <;> simp [*]

@[simp] theorem storeBytes_tmrArmed (b : RxBuf) (i : Nat) (bs : List Byte) (s : State) :
    (storeBytes b i bs s).tmrArmed = s.tmrArmed := by
  induction bs generalizing i s with
  | nil => rfl
  | cons v rest ih => unfold storeBytes; split <;> simp [*]

@[simp] theorem storeBytes_tmrMs (b : RxBuf) (i : Nat) (bs : List Byte) (s : State) :
    (storeBytes b i bs s).tmrMs = s.tmrMs := by
  induction bs generalizing i s with
  | nil => rfl
  | cons v rest ih => unfold storeBytes; split <;> simp [*]

@[simp] theorem storeBytes_txBusy (b : RxBuf) (i : Nat) (bs : List Byte) (s : State) :
    (storeBytes b i bs s).txBusy = s.txBusy := by
  induction bs generalizing i s with
  | nil => rfl
  | cons v rest ih => unfold storeBytes; split <;> simp [*]

@[simp] theorem storeBytes_rxArmed (b : RxBuf) (i : Nat) (bs : List Byte) (s : State) :
    (storeBytes b i bs s).rxArmed = s.rxArmed := by
  induction bs generalizing i s with
  | nil => rfl
  | cons v rest ih => unfold storeBytes; split <;> simp [*]

@[simp] theorem storeBytes_delivered (b : RxBuf) (i : Nat) (bs : List Byte) (s : State) :
    (storeBytes b i bs s).delivered = s.delivered := by
  induction bs generalizing i s with
  | nil => rfl
  | cons v rest ih => unfold storeBytes; split <;> simp [*]

@[simp] theorem storeBytes_trace (b : RxBuf) (i : Nat) (bs : List Byte) (s : State) :
    (storeBytes b i bs s).trace = s.trace := by
  induction bs generalizing i s with
  | nil => rfl
  | cons v rest ih => unfold storeBytes; split <;> simp [*]

@[simp] theorem storeBytes_returned (b : RxBuf) (i : Nat) (bs : List Byte) (s : State) :
    (storeBytes b i bs s).returned = s.returned := by
  induction bs generalizing i s with
  | nil => rfl
  | cons v rest ih => unfold storeBytes; split <;> simp [*]

@[simp] theorem storeBytes_freeNext (b : RxBuf) (i : Nat) (bs : List Byte) (s : State) :
    (storeBytes b i bs s).freeNext = s.freeNext := by
  induction bs generalizing i s with
  | nil => rfl
  | cons v rest ih => unfold storeBytes; split <;> simp [*]

@[simp] theorem storeBytes_script (b : RxBuf) (i : Nat) (bs : List Byte) (s : State) :
    (storeBytes b i bs s).script = s.script := by
  induction bs generalizing i s with
  | nil => rfl
  | cons v rest ih => unfold storeBytes; split <;> simp [*]

@[simp] theorem storeBytes_params (b : RxBuf) (i : Nat) (bs : List Byte) (s : State) :
    (storeBytes b i bs s).params = s.params := by
  induction bs generalizing i s with
  | nil => rfl
  | cons v rest ih => unfold storeBytes; split <;> simp [*]


/-! ### `repostPending` -/

@[simp] theorem repostPending_ctlState (s : State) :
    (repostPending s).ctlState = s.ctlState := by unfold repostPending; split <;> rfl
@[simp] theorem repostPending_xmtState (s : State) :
    (repostPending s).xmtState = s.xmtState := by unfold repostPending; split <;> rfl
@[simp] theorem repostPending_cur (s : State) :
    (repostPending s).cur = s.cur := by unfold repostPending; split <;> rfl
@[simp] theorem repostPending_ans (s : State) :
    (repostPending s).ans = s.ans := by unfold repostPending; split <;> rfl
@[simp] theorem repostPending_rpt (s : State) :
    (repostPending s).rpt = s.rpt := by unfold repostPending; split <;> rfl
@[simp] theorem repostPending_edge (s : State) :
    (repostPending s).edge = s.edge := by unfold repostPending; split <;> rfl
@[simp] theorem repostPending_monCnt (s : State) :
    (repostPending s).monCnt = s.monCnt := by unfold repostPending; split <;> rfl
@[simp] theorem repostPending_monBad (s : State) :
    (repostPending s).monBad = s.monBad := by unfold repostPending; split <;> rfl
@[simp] theorem repostPending_debugMode (s : State) :
    (repostPending s).debugMode = s.debugMode := by unfold repostPending; split <;> rfl
@[simp] theorem repostPending_echo0 (s : State) :
    (repostPending s).echo0 = s.echo0 := by unfold repostPending; split <;> rfl
@[simp] theorem repostPending_echo1 (s : State) :
    (repostPending s).echo1 = s.echo1 := by unfold repostPending; split <;> rfl
@[simp] theorem repostPending_rspbuf0 (s : State) :
    (repostPending s).rspbuf0 = s.rspbuf0 := by unfold repostPending; split <;> rfl
@[simp] theorem repostPending_q (s : State) : (repostPending s).q = s.q := by unfold repostPending; split <;> rfl
@[simp] theorem repostPending_xmtq (s : State) :
    (repostPending s).xmtq = s.xmtq := by unfold repostPending; split <;> rfl
@[simp] theorem repostPending_tmrArmed (s : State) :
    (repostPending s).tmrArmed = s.tmrArmed := by unfold repostPending; split <;> rfl
@[simp] theorem repostPending_tmrMs (s : State) :
    (repostPending s).tmrMs = s.tmrMs := by unfold repostPending; split <;> rfl
@[simp] theorem repostPending_txBusy (s : State) :
    (repostPending s).txBusy = s.txBusy := by unfold repostPending; split <;> rfl
@[simp] theorem repostPending_rxArmed (s : State) :
    (repostPending s).rxArmed = s.rxArmed := by unfold repostPending; split <;> rfl
@[simp] theorem repostPending_delivered (s : State) :
    (repostPending s).delivered = s.delivered := by unfold repostPending; split <;> rfl
@[simp] theorem repostPending_returned (s : State) :
    (repostPending s).returned = s.returned := by unfold repostPending; split <;> rfl
@[simp] theorem repostPending_freeNext (s : State) :
    (repostPending s).freeNext = s.freeNext := by unfold repostPending; split <;> rfl
@[simp] theorem repostPending_script (s : State) :
    (repostPending s).script = s.script := by unfold repostPending; split <;> rfl
@[simp] theorem repostPending_params (s : State) :
    (repostPending s).params = s.params := by unfold repostPending; split <;> rfl

/-! ### `complete` -/

@[simp] theorem complete_ctlState (s : State) : (complete s).ctlState = .idle := by simp [complete]
@[simp] theorem complete_xmtState (s : State) : (complete s).xmtState = s.xmtState := by simp [complete]
@[simp] theorem complete_cur (s : State) : (complete s).cur = s.cur := by simp [complete]
@[simp] theorem complete_ans (s : State) : (complete s).ans = s.ans := by simp [complete]
@[simp] theorem complete_rpt (s : State) : (complete s).rpt = s.rpt := by simp [complete]
@[simp] theorem complete_edge (s : State) : (complete s).edge = s.edge := by simp [complete]
@[simp] theorem complete_monCnt (s : State) : (complete s).monCnt = s.monCnt := by simp [complete]
@[simp] theorem complete_monBad (s : State) : (complete s).monBad = s.monBad := by simp [complete]
@[simp] theorem complete_debugMode (s : State) : (complete s).debugMode = s.debugMode := by simp [complete]
@[simp] theorem complete_echo0 (s : State) : (complete s).echo0 = s.echo0 := by simp [complete]
@[simp] theorem complete_echo1 (s : State) : (complete s).echo1 = s.echo1 := by simp [complete]
@[simp] theorem complete_rspbuf0 (s : State) : (complete s).rspbuf0 = s.rspbuf0 := by simp [complete]
@[simp] theorem complete_q (s : State) : (complete s).q = s.q := by simp [complete]
@[simp] theorem complete_xmtq (s : State) : (complete s).xmtq = s.xmtq := by simp [complete]
@[simp] theorem complete_tmrArmed (s : State) : (complete s).tmrArmed = s.tmrArmed := by simp [complete]
@[simp] theorem complete_tmrMs (s : State) : (complete s).tmrMs = s.tmrMs := by simp [complete]
@[simp] theorem complete_txBusy (s : State) : (complete s).txBusy = s.txBusy := by simp [complete]
@[simp] theorem complete_rxArmed (s : State) : (complete s).rxArmed = s.rxArmed := by simp [complete]
@[simp] theorem complete_delivered (s : State) : (complete s).delivered = s.delivered ++ [s.cur] := by simp [complete]
@[simp] theorem complete_returned (s : State) : (complete s).returned = s.returned := by simp [complete]
@[simp] theorem complete_freeNext (s : State) : (complete s).freeNext = s.freeNext := by simp [complete]
@[simp] theorem complete_script (s : State) : (complete s).script = s.script := by simp [complete]
@[simp] theorem complete_params (s : State) : (complete s).params = s.params := by simp [complete]

/-! ### `queuePut` -/

@[simp] theorem queuePut_ctlState (m : BusMessage) (s : State) :
    (queuePut m s).ctlState = s.ctlState := by unfold queuePut; split <;> rfl
@[simp] theorem queuePut_xmtState (m : BusMessage) (s : State) :
    (queuePut m s).xmtState = s.xmtState := by unfold queuePut; split <;> rfl
@[simp] theorem queuePut_cur (m : BusMessage) (s : State) :
    (queuePut m s).cur = s.cur := by unfold queuePut; split <;> rfl
@[simp] theorem queuePut_ans (m : BusMessage) (s : State) :
    (queuePut m s).ans = s.ans := by unfold queuePut; split <;> rfl
@[simp] theorem queuePut_rpt (m : BusMessage) (s : State) :
    (queuePut m s).rpt = s.rpt := by unfold queuePut; split <;> rfl
@[simp] theorem queuePut_edge (m : BusMessage) (s : State) :
    (queuePut m s).edge = s.edge := by unfold queuePut; split <;> rfl
@[simp] theorem queuePut_monCnt (m : BusMessage) (s : State) :
    (queuePut m s).monCnt = s.monCnt := by unfold queuePut; split <;> rfl
@[simp] theorem queuePut_monBad (m : BusMessage) (s : State) :
    (queuePut m s).monBad = s.monBad := by unfold queuePut; split <;> rfl
@[simp] theorem queuePut_debugMode (m : BusMessage) (s : State) :
    (queuePut m s).debugMode = s.debugMode := by unfold queuePut; split <;> rfl
@[simp] theorem queuePut_echo0 (m : BusMessage) (s : State) :
    (queuePut m s).echo0 = s.echo0 := by unfold queuePut; split <;> rfl
@[simp] theorem queuePut_echo1 (m : BusMessage) (s : State) :
    (queuePut m s).echo1 = s.echo1 := by unfold queuePut; split <;> rfl
@[simp] theorem queuePut_rspbuf0 (m : BusMessage) (s : State) :
    (queuePut m s).rspbuf0 = s.rspbuf0 := by unfold queuePut; split <;> rfl
@[simp] theorem queuePut_ctlq (m : BusMessage) (s : State) :
    (queuePut m s).ctlq = s.ctlq := by unfold queuePut; split <;> rfl
@[simp] theorem queuePut_xmtq (m : BusMessage) (s : State) :
    (queuePut m s).xmtq = s.xmtq := by unfold queuePut; split <;> rfl
@[simp] theorem queuePut_tmrArmed (m : BusMessage) (s : State) :
    (queuePut m s).tmrArmed = s.tmrArmed := by unfold queuePut; split <;> rfl
@[simp] theorem queuePut_tmrMs (m : BusMessage) (s : State) :
    (queuePut m s).tmrMs = s.tmrMs := by unfold queuePut; split <;> rfl
@[simp] theorem queuePut_txBusy (m : BusMessage) (s : State) :
    (queuePut m s).txBusy = s.txBusy := by unfold queuePut; split <;> rfl
@[simp] theorem queuePut_rxArmed (m : BusMessage) (s : State) :
    (queuePut m s).rxArmed = s.rxArmed := by unfold queuePut; split <;> rfl
@[simp] theorem queuePut_delivered (m : BusMessage) (s : State) :
    (queuePut m s).delivered = s.delivered := by unfold queuePut; split <;> rfl
@[simp] theorem queuePut_returned (m : BusMessage) (s : State) :
    (queuePut m s).returned = s.returned := by unfold queuePut; split <;> rfl
@[simp] theorem queuePut_freeNext (m : BusMessage) (s : State) :
    (queuePut m s).freeNext = s.freeNext := by unfold queuePut; split <;> rfl
@[simp] theorem queuePut_script (m : BusMessage) (s : State) :
    (queuePut m s).script = s.script := by unfold queuePut; split <;> rfl
@[simp] theorem queuePut_params (m : BusMessage) (s : State) :
    (queuePut m s).params = s.params := by unfold queuePut; split <;> rfl

/-! ### `transmitMessage` -/

@[simp] theorem transmitMessage_ctlState (m : BusMessage) (s : State) :
    (transmitMessage m s).ctlState = s.ctlState := by unfold transmitMessage; split <;> simp
@[simp] theorem transmitMessage_xmtState (m : BusMessage) (s : State) :
    (transmitMessage m s).xmtState = s.xmtState := by unfold transmitMessage; split <;> simp
@[simp] theorem transmitMessage_cur (m : BusMessage) (s : State) :
    (transmitMessage m s).cur = s.cur := by unfold transmitMessage; split <;> simp
@[simp] theorem transmitMessage_ans (m : BusMessage) (s : State) :
    (transmitMessage m s).ans = s.ans := by unfold transmitMessage; split <;> simp
@[simp] theorem transmitMessage_rpt (m : BusMessage) (s : State) :
    (transmitMessage m s).rpt = s.rpt := by unfold transmitMessage; split <;> simp
@[simp] theorem transmitMessage_edge (m : BusMessage) (s : State) :
    (transmitMessage m s).edge = s.edge := by unfold transmitMessage; split <;> simp
@[simp] theorem transmitMessage_monCnt (m : BusMessage) (s : State) :
    (transmitMessage m s).monCnt = s.monCnt := by unfold transmitMessage; split <;> simp
@[simp] theorem transmitMessage_monBad (m : BusMessage) (s : State) :
    (transmitMessage m s).monBad = s.monBad := by unfold transmitMessage; split <;> simp
@[simp] theorem transmitMessage_debugMode (m : BusMessage) (s : State) :
    (transmitMessage m s).debugMode = s.debugMode := by unfold transmitMessage; split <;> simp
@[simp] theorem transmitMessage_echo0 (m : BusMessage) (s : State) :
    (transmitMessage m s).echo0 = s.echo0 := by unfold transmitMessage; split <;> simp
@[simp] theorem transmitMessage_echo1 (m : BusMessage) (s : State) :
    (transmitMessage m s).echo1 = s.echo1 := by unfold transmitMessage; split <;> simp
@[simp] theorem transmitMessage_rspbuf0 (m : BusMessage) (s : State) :
    (transmitMessage m s).rspbuf0 = s.rspbuf0 := by unfold transmitMessage; split <;> simp
@[simp] theorem transmitMessage_xmtq (m : BusMessage) (s : State) :
    (transmitMessage m s).xmtq = s.xmtq := by unfold transmitMessage; split <;> simp
@[simp] theorem transmitMessage_tmrArmed (m : BusMessage) (s : State) :
    (transmitMessage m s).tmrArmed = s.tmrArmed := by unfold transmitMessage; split <;> simp
@[simp] theorem transmitMessage_tmrMs (m : BusMessage) (s : State) :
    (transmitMessage m s).tmrMs = s.tmrMs := by unfold transmitMessage; split <;> simp
@[simp] theorem transmitMessage_txBusy (m : BusMessage) (s : State) :
    (transmitMessage m s).txBusy = s.txBusy := by unfold transmitMessage; split <;> simp
@[simp] theorem transmitMessage_rxArmed (m : BusMessage) (s : State) :
    (transmitMessage m s).rxArmed = s.rxArmed := by unfold transmitMessage; split <;> simp
@[simp] theorem transmitMessage_delivered (m : BusMessage) (s : State) :
    (transmitMessage m s).delivered = s.delivered := by unfold transmitMessage; split <;> simp
@[simp] theorem transmitMessage_freeNext (m : BusMessage) (s : State) :
    (transmitMessage m s).freeNext = s.freeNext := by unfold transmitMessage; split <;> simp
@[simp] theorem transmitMessage_script (m : BusMessage) (s : State) :
    (transmitMessage m s).script = s.script := by unfold transmitMessage; split <;> simp
@[simp] theorem transmitMessage_params (m : BusMessage) (s : State) :
    (transmitMessage m s).params = s.params := by unfold transmitMessage; split <;> simp

/-! ### `describe` -/

@[simp] theorem describe_ctlState (n : Nat) (s : State) : (describe n s).ctlState = s.ctlState := rfl
@[simp] theorem describe_xmtState (n : Nat) (s : State) : (describe n s).xmtState = s.xmtState := rfl
@[simp] theorem describe_cur (n : Nat) (s : State) : (describe n s).cur = s.cur := rfl
@[simp] theorem describe_ans (n : Nat) (s : State) : (describe n s).ans = s.ans := rfl
@[simp] theorem describe_rpt (n : Nat) (s : State) : (describe n s).rpt = s.rpt := rfl
@[simp] theorem describe_edge (n : Nat) (s : State) : (describe n s).edge = s.edge := rfl
@[simp] theorem describe_monCnt (n : Nat) (s : State) : (describe n s).monCnt = s.monCnt := rfl
@[simp] theorem describe_monBad (n : Nat) (s : State) : (describe n s).monBad = s.monBad := rfl
@[simp] theorem describe_debugMode (n : Nat) (s : State) : (describe n s).debugMode = s.debugMode := rfl
@[simp] theorem describe_echo0 (n : Nat) (s : State) : (describe n s).echo0 = s.echo0 := rfl
@[simp] theorem describe_echo1 (n : Nat) (s : State) : (describe n s).echo1 = s.echo1 := rfl
@[simp] theorem describe_rspbuf0 (n : Nat) (s : State) : (describe n s).rspbuf0 = s.rspbuf0 := rfl
@[simp] theorem describe_q (n : Nat) (s : State) : (describe n s).q = s.q := rfl
@[simp] theorem describe_ctlq (n : Nat) (s : State) : (describe n s).ctlq = s.ctlq := rfl
@[simp] theorem describe_xmtq (n : Nat) (s : State) : (describe n s).xmtq = s.xmtq := rfl
@[simp] theorem describe_tmrArmed (n : Nat) (s : State) : (describe n s).tmrArmed = s.tmrArmed := rfl
@[simp] theorem describe_tmrMs (n : Nat) (s : State) : (describe n s).tmrMs = s.tmrMs := rfl
@[simp] theorem describe_txBusy (n : Nat) (s : State) : (describe n s).txBusy = s.txBusy := rfl
@[simp] theorem describe_rxArmed (n : Nat) (s : State) : (describe n s).rxArmed = s.rxArmed := rfl
@[simp] theorem describe_delivered (n : Nat) (s : State) : (describe n s).delivered = s.delivered := rfl
@[simp] theorem describe_trace (n : Nat) (s : State) : (describe n s).trace = s.trace := rfl
@[simp] theorem describe_returned (n : Nat) (s : State) :
    (describe n s).returned = .text (describeStatus s.params.strings n) := rfl
@[simp] theorem describe_freeNext (n : Nat) (s : State) : (describe n s).freeNext = s.freeNext := rfl
@[simp] theorem describe_script (n : Nat) (s : State) : (describe n s).script = s.script := rfl
@[simp] theorem describe_params (n : Nat) (s : State) : (describe n s).params = s.params := rfl

end Sys2Proof.Machine
end

