-- ==== Sys2Proof/Laws/Ops.lean ====
section
/-! SUPPORT. For every shared operation of `Machine/Ops.lean` one lemma that says all it does, and the laws of the buffers
and of the event queues. -/

namespace Sys2Proof.Machine

/-! ### Buffers (R61) -/

/-- Reading back a byte of a receive buffer after writing it. -/
theorem memRead_memWrite_same (a : ByteAddr) (v : Byte) (s : State) (h0 : a ≠ .frame0) (h1 : a ≠ .frame1) :
    memRead a (memWrite a v s) = v := by
  cases a <;> first | rfl | contradiction

/-- Writing one byte leaves every other byte alone. -/
theorem memRead_memWrite_other (a b : ByteAddr) (v : Byte) (s : State) (h : b ≠ a) :
    memRead b (memWrite a v s) = memRead b s := by
  cases a <;> cases b <;> first | rfl | contradiction

/-- The two bytes of an echo, stored in arrival order (R62). -/
theorem storeBytes_echo (b0 b1 : Byte) (s : State) :
    storeBytes .echo 0 [b0, b1] s = { s with echo0 := b0, echo1 := b1 } := rfl

/-- The one byte of a response. -/
theorem storeBytes_rspbuf (v : Byte) (s : State) : storeBytes .rspbuf 0 [v] s = { s with rspbuf0 := v } := rfl

/-- Storing into one buffer leaves the response buffer alone if it is the echo buffer. -/
theorem storeBytes_echo_rspbuf0 (i : Nat) (bs : List Byte) (s : State) :
    (storeBytes .echo i bs s).rspbuf0 = s.rspbuf0 := by
  induction bs generalizing i s with
  | nil => rfl
  | cons v rest ih =>
    match i with
    | 0 => simpa [storeBytes, bufByte, memWrite] using ih 1 _
    | 1 => simpa [storeBytes, bufByte, memWrite] using ih 2 _
    | n + 2 => simp [storeBytes, bufByte]

/-- Storing bytes of an echo, whatever their number: the first two reach the buffer. -/
theorem storeBytes_echo_eq (bs : List Byte) (s : State) :
    storeBytes .echo 0 bs s = { s with echo0 := bs[0]?.getD s.echo0, echo1 := bs[1]?.getD s.echo1 } := by
  match bs with
  | [] => rfl
  | [_] => rfl
  | [_, _] => rfl
  | _ :: _ :: _ :: _ => rfl

/-- Storing bytes of a response, whatever their number: the first reaches the buffer. -/
theorem storeBytes_rspbuf_eq (bs : List Byte) (s : State) :
    storeBytes .rspbuf 0 bs s = { s with rspbuf0 := bs[0]?.getD s.rspbuf0 } := by
  match bs with
  | [] => rfl
  | [_] => rfl
  | _ :: _ :: _ => rfl

/-- The echo comparison, byte by byte (R185, D35). -/
theorem echoMatches_iff (s : State) :
    echoMatches s = true ↔
      (1 ≤ s.params.frameLen → s.echo0 = s.cur.addr) ∧ (2 ≤ s.params.frameLen → s.echo1 = s.cur.data) := by
  unfold echoMatches echoPairs
  match s.params.frameLen with
  | 0 => simp
  | 1 => simp [memRead]
  | n + 2 => simp [memRead]

/-! ### The timer's withdrawal of expiries (R281) -/

theorem timeout_notMem_withdrawTimeouts (s : State) (h : s.params.timerContract = true) :
    XmtEvt.timeout ∉ withdrawTimeouts s := by simp [h]

theorem mem_withdrawTimeouts_of_ne (s : State) (e : XmtEvt) (h : e ≠ .timeout) :
    e ∈ withdrawTimeouts s ↔ e ∈ s.xmtq := by
  unfold withdrawTimeouts; split <;> simp [h]

theorem count_withdrawTimeouts_of_ne (s : State) (e : XmtEvt) (h : e ≠ .timeout) :
    (withdrawTimeouts s).count e = s.xmtq.count e := by
  unfold withdrawTimeouts
  split
  · rw [List.count_filter]; simpa using h
  · rfl

theorem count_timeout_withdrawTimeouts (s : State) (h : s.params.timerContract = true) :
    (withdrawTimeouts s).count .timeout = 0 :=
  List.count_eq_zero.mpr (timeout_notMem_withdrawTimeouts s h)

/-- Withdrawing twice is withdrawing once: the order `TimerOff`, `TimerOn` of R185 and R190. -/
@[simp] theorem withdrawTimeouts_timerOff (s : State) : withdrawTimeouts (timerOff s) = withdrawTimeouts s := by
  unfold withdrawTimeouts timerOff withdrawTimeouts
  dsimp only
  split
  · simp [List.filter_filter]
  · rfl

/-! ### The transition engine and the two ways out of a transaction -/

/-- `start_frame()` (R173). -/
theorem startFrame_eq (s : State) :
    startFrame s =
      { s with
        rxArmed := some (.echo, s.params.frameLen)
        txBusy := true
        tmrArmed := true
        tmrMs := s.params.tEchoMs
        xmtq := withdrawTimeouts s
        trace := s.trace ++
          [.manReceive .echo s.params.frameLen,
            .manTransmit ([s.cur.addr, s.cur.data].take s.params.frameLen) s.params.frameLen,
            .timerOn s.params.tEchoMs]
        echo0 := Config.freeByte s.freeNext
        echo1 := Config.freeByte (s.freeNext + 1)
        freeNext := s.freeNext + 2 } := by
  simp [startFrame, timerOn, manTransmit, manReceive, surrender, withdrawTimeouts, frameBytes, memRead]

/-- The entry of WaitRcvDone (R188). -/
theorem enterWaitRcvDone_eq (s : State) :
    enterWaitRcvDone s =
      { s with
        rxArmed := some (.rspbuf, s.params.rspLen)
        tmrArmed := true
        tmrMs := s.params.tRcvMs
        xmtq := withdrawTimeouts s
        trace := s.trace ++ [.manReceive .rspbuf s.params.rspLen, .timerOn s.params.tRcvMs]
        cur := { s.cur with status := .rcvTimeout }
        edge := false
        rspbuf0 := Config.freeByte s.freeNext
        freeNext := s.freeNext + 1 } := by
  simp [enterWaitRcvDone, timerOn, manReceive, surrender, withdrawTimeouts, setStatus]
  rfl

/-- A change of state with its exit and entry actions (R171). -/
theorem xmtGoto_of_ne (next : XmtState) (sup : Bool) (s : State) (h : next ≠ s.xmtState) :
    xmtGoto next sup s =
      xmtEntry next { (if sup then s else xmtExit s.xmtState s) with xmtState := next } := by
  simp [xmtGoto, h]

/-- The exit action of every state but Idle reports (R174). -/
theorem xmtExit_of_ne_idle (st : XmtState) (s : State) (h : st ≠ .idle) :
    xmtExit st s = postCtl .xactdone s := by
  cases st <;> first | rfl | contradiction

/-- `abort(st)` from a state other than Idle (R176). -/
theorem abort_of_ne_idle (st : ResultStatus) (s : State) (h : s.xmtState ≠ .idle) :
    abort st s = { postCtl .xactdone (setStatus st s) with xmtState := .idle } := by
  have h' : XmtState.idle ≠ (setStatus st s).xmtState := fun e => h (by simpa using e.symm)
  rw [abort, xmtGoto_of_ne _ _ _ h', xmtEntry, setStatus_xmtState, xmtExit_of_ne_idle _ _ h]
  rfl

/-- The dequeue on entry to Wait (R233). -/
theorem enterWait_of_cons (s : State) (m : BusMessage) (rest : List BusMessage) (h : s.q = m :: rest) :
    enterWait s =
      .next { s with
        ctlState := .wait
        q := rest
        cur := { m with rsp := 0 }
        xmtq := s.xmtq ++ [.start]
        trace := s.trace ++ [.queueGet m, .postXmt .start] } := by
  simp [enterWait, queueGet, h, postXmt]

/-- No re-post under `drop`, or with nothing waiting (R235). -/
theorem repostPending_of_not (s : State) (h : ¬(s.params.ctlBusyEnq = .defer ∧ s.q ≠ [])) : repostPending s = s := by
  rw [repostPending, if_neg h]

/-- The re-post under `defer` with messages waiting (R235). -/
theorem repostPending_of (s : State) (h : s.params.ctlBusyEnq = .defer ∧ s.q ≠ []) :
    repostPending s = postCtl .msgenq s := by
  rw [repostPending, if_pos h]

/-- Completion without a re-post (R235, R267). -/
theorem complete_of_not_repost (s : State) (h : ¬(s.params.ctlBusyEnq = .defer ∧ s.q ≠ [])) :
    complete s = { outputRcvMsg s.cur s with ctlState := .idle } := by
  rw [complete, repostPending_of_not _ (by simpa using h)]

/-- Completion with a re-post (R235). -/
theorem complete_of_repost (s : State) (h : s.params.ctlBusyEnq = .defer ∧ s.q ≠ []) :
    complete s = { postCtl .msgenq (outputRcvMsg s.cur s) with ctlState := .idle } := by
  rw [complete, repostPending_of _ (by simpa using h)]

/-- `TransmitMessage` with room (R231). -/
theorem transmitMessage_of_room (m : BusMessage) (s : State) (h : s.q.length < s.params.qdepth) :
    transmitMessage m s =
      { s with
        q := s.q ++ [m]
        ctlq := s.ctlq ++ [.msgenq]
        trace := s.trace ++ [.queuePut m true, .postCtl .msgenq]
        returned := .accepted true } := by
  simp [transmitMessage, queueHasRoom, h, queuePut, postCtl, setReturned]

/-- `TransmitMessage` with the queue full (R231, R319). -/
theorem transmitMessage_of_full (m : BusMessage) (s : State) (h : s.params.qdepth ≤ s.q.length) :
    transmitMessage m s =
      { s with trace := s.trace ++ [.queuePut m false], returned := .accepted false } := by
  simp [transmitMessage, queueHasRoom, Nat.not_lt.mpr h, queuePut, setReturned]

end Sys2Proof.Machine
end

