-- ==== Sys2Proof/Laws/Words.lean ====
section
/-! SUPPORT. A handle and its operand bytes determine each other (the operand layout of `TransmitMessage`), the
codes of the enumerations, and what the selection of a classifier row says of a frame. -/

namespace Sys2Proof

/-- A handle is read back from its bytes, whatever follows. -/
theorem decodeHandle_handleBytes (h rest : List Byte) : decodeHandle (handleBytes h ++ rest) = .ok (h, rest) := by
  induction h with
  | nil => cases rest <;> rfl
  | cons b t ih => simp [handleBytes, decodeHandle, ih]

/-- A handle that is read is encoded by exactly the bytes read. -/
theorem handleBytes_of_decodeHandle : ∀ {bs h rest : List Byte}, decodeHandle bs = .ok (h, rest) → handleBytes h ++ rest = bs
  | [], _, _, hd => by contradiction
  | [f], h, rest, hd => by
    simp only [decodeHandle] at hd
    split at hd
    · rename_i hf; cases hd; subst hf; rfl
    · split at hd <;> contradiction
  | f :: v :: tail, h, rest, hd => by
    simp only [decodeHandle] at hd
    split at hd
    · rename_i hf; cases hd; subst hf; rfl
    · split at hd
      · rename_i hf
        split at hd
        · rename_i ht; cases hd; subst hf; simp [handleBytes, handleBytes_of_decodeHandle ht]
        · contradiction
      · contradiction

/-- A callback is read back from its bytes, whatever follows. -/
theorem decodeCallback_callbackBytes (cb : Option CbT) (rest : List Byte) :
    decodeCallback (callbackBytes cb ++ rest) = .ok (cb, rest) := by
  cases cb with
  | none => rfl
  | some c => simp [callbackBytes, decodeCallback, decodeHandle_handleBytes]

/-- A callback that is read is encoded by exactly the bytes read. -/
theorem callbackBytes_of_decodeCallback {bs rest : List Byte} {cb : Option CbT}
    (hd : decodeCallback bs = .ok (cb, rest)) : callbackBytes cb ++ rest = bs := by
  unfold decodeCallback at hd
  split at hd
  · contradiction
  · split at hd
    · rename_i hf; cases hd; subst hf; rfl
    · split at hd
      · rename_i hf
        split at hd
        · rename_i ht; cases hd; subst hf; simp [callbackBytes, handleBytes_of_decodeHandle ht]
        · contradiction
      · contradiction

/-- The operands of `TransmitMessage` are read back from their bytes, whatever follows. -/
theorem decodeTransmit_encode (a d : Byte) (cb : Option CbT) (opt : OptT) (rest : List Byte) :
    decodeTransmit (a :: d :: (callbackBytes cb ++ (handleBytes opt ++ rest))) = .ok (.transmitmessage a d cb opt) rest := by
  simp [decodeTransmit, decodeCallback_callbackBytes, decodeHandle_handleBytes]

/-- What `decodeTransmit` reads is a call of `TransmitMessage`, encoded by exactly the bytes read. -/
theorem decodeTransmit_ok {bs rest : List Byte} {i : Instr} (hd : decodeTransmit bs = .ok i rest) :
    ∃ a d cb opt, i = .transmitmessage a d cb opt ∧ a :: d :: (callbackBytes cb ++ (handleBytes opt ++ rest)) = bs := by
  unfold decodeTransmit at hd
  split at hd
  · split at hd
    · contradiction
    · rename_i hc
      split at hd
      · contradiction
      · rename_i ho
        cases hd
        exact ⟨_, _, _, _, rfl, by rw [handleBytes_of_decodeHandle ho, callbackBytes_of_decodeCallback hc]⟩
  · contradiction

/-- The codes of `AnswerExpectation` (R103) name each value once. -/
theorem answerOfCode_answerCode (a : AnswerExpectation) : answerOfCode (answerCode a) = a := by cases a <;> rfl

/-- Every two-bit code names one value. -/
theorem answerCode_answerOfCode (c : BitVec 2) : answerCode (answerOfCode c) = c := by decide +revert

/-- The ST4 codes (R104) name each status once. -/
theorem statusOfCode_statusCode (st : ResultStatus) : Machine.statusOfCode (statusCode st).toNat = some st := by
  cases st <;> rfl

namespace Machine

/-- The selected row of `ClassifyAnswer` matches its frame (R109). -/
theorem answerRowMatches_select (o : Opc) (addr data : Byte) :
    answerRowMatches o addr data (selectAnswerRow o addr data) = true := by
  unfold selectAnswerRow
  cases h : answerRows.find? (answerRowMatches o addr data) with
  | none => rfl
  | some r => exact List.find?_some h

/-- The selected row of `ClassifyRepeat` matches its frame (R109). -/
theorem repeatRowMatches_select (o : Opc) (addr data : Byte) :
    repeatRowMatches o addr data (selectRepeatRow o addr data) = true := by
  unfold selectRepeatRow
  cases h : repeatRows.find? (repeatRowMatches o addr data) with
  | none => rfl
  | some r => exact List.find?_some h

end Machine

end Sys2Proof
end

