-- ==== Sys2Proof/Laws/Cases.lean ====
section
/-! SUPPORT. What a dispatch, an operation, a line and a step can do, said once each as a closed list of cases; a proof about
every step goes through `MachineStep` and unfolds no meaning. -/

namespace Sys2Proof.Machine

/-- Every outcome of an event dispatched into XMT, one case per branch of a rule (R198). -/
inductive XmtStep (s : State) : XmtEvt → State → Prop
  | ignored (e) (h : xmtHasRow s.xmtState e = false) : XmtStep s e s
  | startBad (hs : s.xmtState = .idle) (hb : s.monBad = true) :
      XmtStep s .start (postCtl .xactdone (setStatus .busMonBad s))
  | startIllegal (hs : s.xmtState = .idle) (hb : s.monBad = false) (ha : (classifyCurrent s).ans = .error) :
      XmtStep s .start (postCtl .xactdone (setStatus .illOp (classifyCurrent s)))
  | startFrame (hs : s.xmtState = .idle) (hb : s.monBad = false) (ha : (classifyCurrent s).ans ≠ .error) :
      XmtStep s .start (setStatus .xmtTimeout { startFrame (classifyCurrent s) with xmtState := .waitXmtDone })
  | transmitDone (hs : s.xmtState = .waitXmtDone) :
      XmtStep s .manxmtdone (setStatus .busErr { s with xmtState := .waitXmtEcho })
  | transmitError (hs : s.xmtState = .waitXmtDone) :
      XmtStep s .manrcveror { postCtl .xactdone (setStatus .busErr s) with xmtState := .idle }
  | transmitTimeout (hs : s.xmtState = .waitXmtDone) :
      XmtStep s .timeout { postCtl .xactdone (setStatus .xmtTimeout s) with xmtState := .idle }
  | echoAnswer (hs : s.xmtState = .waitXmtEcho) (hm : echoMatches s = true) (ha : answerExpected s.ans = true) :
      XmtStep s .manrcvdone (enterWaitRcvDone { timerOff s with xmtState := .waitRcvDone })
  | echoNoAnswer (hs : s.xmtState = .waitXmtEcho) (hm : echoMatches s = true) (ha : answerExpected s.ans = false) :
      XmtStep s .manrcvdone
        (timerOn s.params.tFrameMs { setStatus .ok (timerOff s) with xmtState := .waitFrameTime })
  | echoBad (hs : s.xmtState = .waitXmtEcho) (hm : echoMatches s = false) :
      XmtStep s .manrcvdone { postCtl .xactdone (setStatus .echoErr (timerOff s)) with xmtState := .idle }
  | echoError (hs : s.xmtState = .waitXmtEcho) :
      XmtStep s .manrcveror { postCtl .xactdone (setStatus .busErr s) with xmtState := .idle }
  | echoTimeout (hs : s.xmtState = .waitXmtEcho) :
      XmtStep s .timeout { postCtl .xactdone (setStatus .busErr s) with xmtState := .idle }
  | edgeSeen (hs : s.xmtState = .waitRcvDone) : XmtStep s .edgeseen { s with edge := true }
  | answer (hs : s.xmtState = .waitRcvDone) :
      XmtStep s .manrcvdone
        (timerOn s.params.tBackMs
          { setStatus .rcvOk (copyResponse (timerOff s)) with xmtState := .waitBackFrameTime })
  | answerError (hs : s.xmtState = .waitRcvDone) :
      XmtStep s .manrcveror
        (timerOn s.params.tFrameMs
          { setStatus (if s.edge then .busCol else .rcvTimeout) s with rpt := false, xmtState := .waitFrameTime })
  | answerTimeout (hs : s.xmtState = .waitRcvDone) :
      XmtStep s .timeout
        { postCtl .xactdone (setStatus (if s.ans = .required then .rcvTimeout else .ok) (manAbortReceive s)) with
          xmtState := .idle }
  | frameAgain (hs : s.xmtState = .waitFrameTime) (hr : s.rpt = true) :
      XmtStep s .timeout
        (setStatus .xmtTimeout { Machine.startFrame { s with rpt := false } with xmtState := .waitXmtDone })
  | frameEnd (hs : s.xmtState = .waitFrameTime) (hr : s.rpt = false) :
      XmtStep s .timeout { postCtl .xactdone s with xmtState := .idle }
  | backFrameEnd (hs : s.xmtState = .waitBackFrameTime) :
      XmtStep s .timeout { postCtl .xactdone s with xmtState := .idle }

/-- Every outcome of an event dispatched into CTL (R232 to R236). -/
inductive CtlStep (s : State) : CtlEvt → State → Prop
  | nothingQueued (hs : s.ctlState = .idle) (hq : s.q = []) : CtlStep s .msgenq s
  | dequeue (m : BusMessage) (rest : List BusMessage) (hs : s.ctlState = .idle) (hq : s.q = m :: rest) :
      CtlStep s .msgenq
        { s with
          ctlState := .wait
          q := rest
          cur := { m with rsp := 0 }
          xmtq := s.xmtq ++ [.start]
          trace := s.trace ++ [.queueGet m, .postXmt .start] }
  | busy (hs : s.ctlState = .wait) : CtlStep s .msgenq s
  | deliver (hs : s.ctlState = .wait) : CtlStep s .xactdone (complete s)
  | ignored (hs : s.ctlState = .idle) : CtlStep s .xactdone s

/-- Whether an operation feeds an event into a machine. -/
def feedsInstr : Instr → Bool
  | .montick _ => false
  | .transmitmessage _ _ _ _ => false
  | i => (formatOf i == .evt8 && !(i matches .getstatusdesc _)) || formatOf i == .xt12

/-- Every outcome of an operation of the table. -/
inductive OpStep (s : State) (i : Instr) : State → Prop
  | xmt (e : XmtEvt) (t : State) (hf : feedsInstr i = true) (h : XmtStep s e t) : OpStep s i t
  | ctl (e : CtlEvt) (t : State) (hf : feedsInstr i = true) (h : CtlStep s e t) : OpStep s i t
  | tick (sample : Bool) (hi : i = .montick sample) : OpStep s i (monitorTick sample s)
  | submit (addr data : Byte) (cb : Option CbT) (opt : OptT) (hi : i = .transmitmessage addr data cb opt) :
      OpStep s i (transmitMessage (newMessage addr data cb opt) s)
  | answered (r : Returned) : OpStep s i (setReturned r s)

/-- A line that calls `TransmitMessage` (R100). -/
def submits : Line → Bool
  | .op .evt8 (c :: _) => c == 0x40#8
  | _ => false

/-- Every outcome of a script line that is taken (R107, R108). -/
inductive LineStep (s : State) : Line → State → Prop
  | op (f : Format) (bytes rest : List Byte) (i : Instr) (t : State)
      (hd : decode s.params.opc f bytes = .ok i rest) (h : OpStep s i t) : LineStep s (.op f bytes) t
  | ctl (l : Line) (ls : List Line) (e : CtlEvt) (rest : List CtlEvt) (t : State)
      (hl : l = .dispatchCtl ∧ ls = [] ∨ l = .run ∧ ls = [.run]) (hq : s.ctlq = e :: rest)
      (h : CtlStep { expand ls s with ctlq := rest } e t) : LineStep s l t
  | xmt (l : Line) (ls : List Line) (e : XmtEvt) (rest : List XmtEvt) (t : State)
      (hl : l = .dispatchXmt ∧ ls = [] ∨ l = .run ∧ ls = [.run]) (hq : s.xmtq = e :: rest)
      (h : XmtStep { expand ls s with xmtq := rest } e t) : LineStep s l t
  | runDone (hc : s.ctlq = []) (hx : s.xmtq = []) : LineStep s .run s
  | xmtDone (h : s.params.transmitContract = true → s.txBusy = true) :
      LineStep s .xmtDone (envPostXmt .manxmtdone { s with txBusy := false })
  | rcvDone (bytes : List Byte) (b : RxBuf) (n : Nat) (ha : s.rxArmed = some (b, n))
      (h : s.params.receiveContract = true → bytes.length = n)
      (ho : s.params.echoOrderContract = true → b = .echo → s.txBusy = false) :
      LineStep s (.rcvDone bytes) (envPostXmt .manrcvdone (storeBytes b 0 (bytes.take n) { s with rxArmed := none }))
  | rcvDoneUnarmed (bytes : List Byte) (ha : s.rxArmed = none) (h : s.params.receiveContract = false) :
      LineStep s (.rcvDone bytes) (envPostXmt .manrcvdone s)
  | rcvErr (b : RxBuf) (n : Nat) (ha : s.rxArmed = some (b, n)) :
      LineStep s .rcvErr (envPostXmt .manrcveror (surrender b { s with rxArmed := none }))
  | rcvErrUnarmed (ha : s.rxArmed = none) (h : s.params.receiveContract = false) :
      LineStep s .rcvErr (envPostXmt .manrcveror s)
  | edge (h : s.params.receiveContract = true → s.rxArmed ≠ none) : LineStep s .edge (envPostXmt .edgeseen s)
  | expire (h : s.params.timerContract = true → s.tmrArmed = true) :
      LineStep s .expire (envPostXmt .timeout { s with tmrArmed := false })
  | debug (on : Bool) : LineStep s (.debug on) { s with debugMode := on }
  | expanded (l : Line) (ls : List Line) (h : ∀ k ∈ ls, feedsEvent k = false ∧ submits k = false) :
      LineStep s l (expand ls s)

/-- What may follow in a script: lines that stood in it, or lines that feed no event into a machine and submit nothing. -/
def Follows (s : State) (ls : List Line) : Prop := ∀ k ∈ ls, k ∈ s.script ∨ feedsEvent k = false ∧ submits k = false

/-- Every outcome of a step that is taken.  In each case `ls` is the script left; `xmtOp` and `ctlOp` are the events fed
behind the scheduler's back, which the host's contract (R276) rules out. -/
inductive StepCase (s : State) : State → Prop
  | quiet (ls : List Line) (hls : Follows s ls) : StepCase s { s with script := ls }
  | xmt (ls : List Line) (hls : Follows s ls) (e : XmtEvt) (later : List XmtEvt) (t : State)
      (hq : s.xmtq = e :: later) (h : XmtStep { s with script := ls, xmtq := later } e t) : StepCase s t
  | ctl (ls : List Line) (hls : Follows s ls) (e : CtlEvt) (later : List CtlEvt) (t : State)
      (hq : s.ctlq = e :: later) (h : CtlStep { s with script := ls, ctlq := later } e t) : StepCase s t
  | xmtOp (l : Line) (ls : List Line) (hs : s.script = l :: ls) (hl : feedsEvent l = true) (e : XmtEvt) (t : State)
      (h : XmtStep { s with script := ls } e t) : StepCase s t
  | ctlOp (l : Line) (ls : List Line) (hs : s.script = l :: ls) (hl : feedsEvent l = true) (e : CtlEvt) (t : State)
      (h : CtlStep { s with script := ls } e t) : StepCase s t
  | tick (bytes : List Byte) (ls : List Line) (sample : Bool) (hs : s.script = .op .evt8 (0x30#8 :: bytes) :: ls) :
      StepCase s (monitorTick sample { s with script := ls })
  | accepted (bytes : List Byte) (ls : List Line) (hs : s.script = .op .evt8 (0x40#8 :: bytes) :: ls) (m : BusMessage)
      (hr : m.rsp = 0) (hm : m.status = .ok) (hq : s.q.length < s.params.qdepth)
      (hd : ∃ rest, decode s.params.opc .evt8 (0x40#8 :: bytes) = .ok (.transmitmessage m.addr m.data m.cb m.opt) rest) :
      StepCase s { s with
        script := ls
        q := s.q ++ [m]
        ctlq := s.ctlq ++ [.msgenq]
        trace := s.trace ++ [.queuePut m true, .postCtl .msgenq]
        returned := .accepted true }
  | full (ls : List Line) (hls : Follows s ls) (m : BusMessage) (hq : s.params.qdepth ≤ s.q.length) :
      StepCase s { s with
        script := ls
        trace := s.trace ++ [.queuePut m false]
        returned := .accepted false }
  | answered (ls : List Line) (hls : Follows s ls) (r : Returned) : StepCase s (setReturned r { s with script := ls })
  | xmtDone (ls : List Line) (hls : Follows s ls) (h : s.params.transmitContract = true → s.txBusy = true) :
      StepCase s (envPostXmt .manxmtdone { s with script := ls, txBusy := false })
  | rcvDone (ls : List Line) (hls : Follows s ls) (bytes : List Byte) (b : RxBuf) (n : Nat)
      (ha : s.rxArmed = some (b, n)) (h : s.params.receiveContract = true → bytes.length = n)
      (ho : s.params.echoOrderContract = true → b = .echo → s.txBusy = false) :
      StepCase s
        (envPostXmt .manrcvdone (storeBytes b 0 (bytes.take n) { s with script := ls, rxArmed := none }))
  | rcvErr (ls : List Line) (hls : Follows s ls) (b : RxBuf) (n : Nat) (ha : s.rxArmed = some (b, n)) :
      StepCase s (envPostXmt .manrcveror (surrender b { s with script := ls, rxArmed := none }))
  | posted (ls : List Line) (hls : Follows s ls) (e : XmtEvt) (he : e = .manrcvdone ∨ e = .manrcveror ∨ e = .edgeseen) :
      StepCase s (envPostXmt e { s with script := ls })
  | expire (ls : List Line) (hls : Follows s ls) (h : s.params.timerContract = true → s.tmrArmed = true) :
      StepCase s (envPostXmt .timeout { s with script := ls, tmrArmed := false })
  | debug (ls : List Line) (hls : Follows s ls) (on : Bool) : StepCase s { s with script := ls, debugMode := on }

/-! ### The meanings are within these cases -/

theorem xmtIdleStartRule_step (s : State) (hs : s.xmtState = .idle) : XmtStep s .start (xmtIdleStartRule s) := by
  unfold xmtIdleStartRule
  split
  · exact .startBad hs ‹_›
  · rename_i hb
    split
    · exact .startIllegal hs (by simpa using hb) ‹_›
    · rw [xmtGoto_of_ne _ _ _ (by simp [hs])]
      simpa [hs, xmtEntry, xmtExit] using XmtStep.startFrame hs (by simpa using hb) ‹_›

theorem xmtWaitXmtEchoManrcvdoneRule_step (s : State) (hs : s.xmtState = .waitXmtEcho) :
    XmtStep s .manrcvdone (xmtWaitXmtEchoManrcvdoneRule s) := by
  have hm : echoMatches (timerOff s) = echoMatches s := rfl
  unfold xmtWaitXmtEchoManrcvdoneRule
  rw [hm]
  split
  · rename_i hm
    split <;> rename_i ha <;> rw [xmtGoto_of_ne _ _ _ (by simp [hs])]
    · exact .echoAnswer hs hm ha
    · exact .echoNoAnswer hs hm (Bool.eq_false_iff.mpr ha)
  · rename_i hm
    rw [abort_of_ne_idle _ _ (by simp [hs])]
    exact .echoBad hs (Bool.eq_false_iff.mpr hm)

theorem xmtWaitFrameTimeTimeoutRule_step (s : State) (hs : s.xmtState = .waitFrameTime) :
    XmtStep s .timeout (xmtWaitFrameTimeTimeoutRule s) := by
  unfold xmtWaitFrameTimeTimeoutRule
  split <;> rename_i hr <;> rw [xmtGoto_of_ne _ _ _ (by simp [hs])]
  · exact .frameAgain hs hr
  · simpa [hs, xmtEntry, xmtExit, reportDone] using XmtStep.frameEnd hs (Bool.eq_false_iff.mpr hr)

theorem dispatchTimeout_step (s : State) : XmtStep s .timeout (dispatchTimeout s) := by
  unfold dispatchTimeout
  split <;> rename_i hs
  · exact .ignored _ (by rw [hs]; rfl)
  · rw [xmtWaitXmtDoneTimeoutRule, abort_of_ne_idle _ _ (by simp [hs])]; exact .transmitTimeout hs
  · rw [xmtWaitXmtEchoTimeoutRule, abort_of_ne_idle _ _ (by simp [hs])]; exact .echoTimeout hs
  · rw [xmtWaitRcvDoneTimeoutRule, abort_of_ne_idle _ _ (by simp [hs])]; exact .answerTimeout hs
  · exact xmtWaitFrameTimeTimeoutRule_step s hs
  · rw [xmtWaitBackFrameTimeTimeoutRule, xmtGoto_of_ne _ _ _ (by simp [hs])]
    simpa [hs, xmtEntry, xmtExit, reportDone] using XmtStep.backFrameEnd hs

/-- Every event dispatched into XMT. -/
theorem exec_xmtStep (e : XmtEvt) (s t : State) (h : exec (xmtEvtInstr e) s = .next t) : XmtStep s e t := by
  cases e <;> simp only [xmtEvtInstr, exec] at h
  · injection h with h; subst h
    unfold dispatchStart; split <;> rename_i hs
    · exact xmtIdleStartRule_step s hs
    all_goals exact .ignored _ (by rw [hs]; rfl)
  · injection h with h; subst h; exact dispatchTimeout_step s
  · injection h with h; subst h
    unfold dispatchManxmtdone; split <;> rename_i hs
    case h_2 =>
      rw [xmtWaitXmtDoneManxmtdoneRule, xmtGoto_of_ne _ _ _ (by simp [hs])]; exact .transmitDone hs
    all_goals exact .ignored _ (by rw [hs]; rfl)
  · injection h with h; subst h
    unfold dispatchManrcvdone; split <;> rename_i hs
    case h_3 => exact xmtWaitXmtEchoManrcvdoneRule_step s hs
    case h_4 =>
      rw [xmtWaitRcvDoneManrcvdoneRule, xmtGoto_of_ne _ _ _ (by simp [hs])]; exact .answer hs
    all_goals exact .ignored _ (by rw [hs]; rfl)
  · injection h with h; subst h
    unfold dispatchManrcveror; split <;> rename_i hs
    case h_2 =>
      rw [xmtWaitXmtDoneManrcverorRule, abort_of_ne_idle _ _ (by simp [hs])]; exact .transmitError hs
    case h_3 =>
      rw [xmtWaitXmtEchoManrcverorRule, abort_of_ne_idle _ _ (by simp [hs])]; exact .echoError hs
    case h_4 =>
      rw [xmtWaitRcvDoneManrcverorRule, xmtGoto_of_ne _ _ _ (by simp [hs])]; exact .answerError hs
    all_goals exact .ignored _ (by rw [hs]; rfl)
  · injection h with h; subst h
    unfold dispatchEdgeseen; split <;> rename_i hs
    case h_4 => exact .edgeSeen hs
    all_goals exact .ignored _ (by rw [hs]; rfl)

/-- Every event dispatched into CTL. -/
theorem exec_ctlStep (e : CtlEvt) (s t : State) (h : exec (ctlEvtInstr e) s = .next t) : CtlStep s e t := by
  cases e <;> simp only [ctlEvtInstr, exec] at h
  · unfold execMsgenq dispatchMsgenq at h
    split at h <;> rename_i hs
    · unfold ctlIdleMsgenqRule at h
      split at h <;> rename_i hq
      · injection h with h; subst h; exact .nothingQueued hs hq
      · obtain ⟨m, rest, hq⟩ := List.exists_cons_of_ne_nil hq
        rw [enterWait_of_cons _ _ _ hq] at h
        injection h with h; subst h; exact .dequeue m rest hs hq
    · injection h with h; subst h; exact .busy hs
  · unfold execXactdone dispatchXactdone at h
    split at h <;> rename_i hs <;> (injection h with h; subst h)
    · exact .ignored hs
    · exact .deliver hs

theorem inXmtState_next (st : XmtState) (rule : State → State) (s t : State)
    (h : inXmtState st rule s = .next t) : s.xmtState = st ∧ t = rule s := by
  unfold inXmtState at h
  split at h
  · injection h with h; exact ⟨‹_›, h.symm⟩
  · contradiction

theorem inCtlState_next (st : CtlState) (rule : State → Result) (s t : State)
    (h : inCtlState st rule s = .next t) : s.ctlState = st ∧ rule s = .next t := by
  unfold inCtlState at h
  split at h
  · exact ⟨‹_›, h⟩
  · contradiction

theorem evalAnswerRow_next (r : AnsRow) (addr data : Byte) (s t : State) (h : evalAnswerRow r addr data s = .next t) :
    t = setReturned (.answer (answerRowResult r addr s.debugMode)) s := by
  unfold evalAnswerRow at h
  split at h
  · injection h with h; exact h.symm
  · contradiction

theorem evalRepeatRow_next (r : RptRow) (addr data : Byte) (s t : State) (h : evalRepeatRow r addr data s = .next t) :
    t = setReturned (.again (repeatRowResult r)) s := by
  unfold evalRepeatRow at h
  split at h
  · injection h with h; exact h.symm
  · contradiction

theorem opStep_of_xmtKey (i : Instr) (st : XmtState) (e : XmtEvt) (rule : State → State) (s t : State)
    (hf : feedsInstr i = true) (hr : s.xmtState = st → exec (xmtEvtInstr e) s = .next (rule s))
    (h : inXmtState st rule s = .next t) : OpStep s i t := by
  obtain ⟨hs, rfl⟩ := inXmtState_next _ _ _ _ h
  exact .xmt e _ hf (exec_xmtStep e s _ (hr hs))

theorem opStep_of_ctlKey (i : Instr) (st : CtlState) (e : CtlEvt) (rule : State → Result) (s t : State)
    (hf : feedsInstr i = true) (hr : s.ctlState = st → exec (ctlEvtInstr e) s = rule s)
    (h : inCtlState st rule s = .next t) : OpStep s i t := by
  obtain ⟨hs, h⟩ := inCtlState_next _ _ _ _ h
  exact .ctl e _ hf (exec_ctlStep e s _ ((hr hs).trans h))

/-- A classifier operation is the evaluation of its row for its frame (`ClassifyAnswer`). -/
theorem exec_answerRow (i : Instr) (r : AnsRow) (s : State) (hr : answerRowOf i = some r) :
    exec i s = evalAnswerRow r (frameOf s.params.opc i).1 (frameOf s.params.opc i).2 s := by
  cases i <;> simp only [answerRowOf, reduceCtorEq, Option.some.injEq] at hr <;> subst hr <;> rfl

/-- A classifier operation is the evaluation of its row for its frame (`ClassifyRepeat`). -/
theorem exec_repeatRow (i : Instr) (r : RptRow) (s : State) (hr : repeatRowOf i = some r) :
    exec i s = evalRepeatRow r (frameOf s.params.opc i).1 (frameOf s.params.opc i).2 s := by
  cases i <;> simp only [repeatRowOf, reduceCtorEq, Option.some.injEq] at hr <;> subst hr <;> rfl

/-- Every operation of the table. -/
theorem exec_opStep (i : Instr) (s t : State) (h : exec i s = .next t) : OpStep s i t := by
  cases i
  case msgenq => exact .ctl .msgenq t rfl (exec_ctlStep .msgenq s t h)
  case xactdone => exact .ctl .xactdone t rfl (exec_ctlStep .xactdone s t h)
  case start => exact .xmt .start t rfl (exec_xmtStep .start s t h)
  case timeout => exact .xmt .timeout t rfl (exec_xmtStep .timeout s t h)
  case manxmtdone => exact .xmt .manxmtdone t rfl (exec_xmtStep .manxmtdone s t h)
  case manrcvdone => exact .xmt .manrcvdone t rfl (exec_xmtStep .manrcvdone s t h)
  case manrcveror => exact .xmt .manrcveror t rfl (exec_xmtStep .manrcveror s t h)
  case edgeseen => exact .xmt .edgeseen t rfl (exec_xmtStep .edgeseen s t h)
  case montick b => injection h with h; subst h; exact .tick b rfl
  case transmitmessage a d c o => injection h with h; subst h; exact .submit a d c o rfl
  case getstatusdesc n => injection h with h; subst h; exact .answered _
  case xmtIdleStart => exact opStep_of_xmtKey _ _ .start _ s t rfl (fun hs => by
    simp [exec, xmtEvtInstr, execStart, dispatchStart, hs]) h
  case xmtWaitXmtDoneManxmtdone => exact opStep_of_xmtKey _ _ .manxmtdone _ s t rfl (fun hs => by
    simp [exec, xmtEvtInstr, execManxmtdone, dispatchManxmtdone, hs]) h
  case xmtWaitXmtDoneManrcveror => exact opStep_of_xmtKey _ _ .manrcveror _ s t rfl (fun hs => by
    simp [exec, xmtEvtInstr, execManrcveror, dispatchManrcveror, hs]) h
  case xmtWaitXmtDoneTimeout => exact opStep_of_xmtKey _ _ .timeout _ s t rfl (fun hs => by
    simp [exec, xmtEvtInstr, execTimeout, dispatchTimeout, hs]) h
  case xmtWaitXmtEchoManrcvdone => exact opStep_of_xmtKey _ _ .manrcvdone _ s t rfl (fun hs => by
    simp [exec, xmtEvtInstr, execManrcvdone, dispatchManrcvdone, hs]) h
  case xmtWaitXmtEchoManrcveror => exact opStep_of_xmtKey _ _ .manrcveror _ s t rfl (fun hs => by
    simp [exec, xmtEvtInstr, execManrcveror, dispatchManrcveror, hs]) h
  case xmtWaitXmtEchoTimeout => exact opStep_of_xmtKey _ _ .timeout _ s t rfl (fun hs => by
    simp [exec, xmtEvtInstr, execTimeout, dispatchTimeout, hs]) h
  case xmtWaitRcvDoneEdgeseen => exact opStep_of_xmtKey _ _ .edgeseen _ s t rfl (fun hs => by
    simp [exec, xmtEvtInstr, execEdgeseen, dispatchEdgeseen, hs]) h
  case xmtWaitRcvDoneManrcvdone => exact opStep_of_xmtKey _ _ .manrcvdone _ s t rfl (fun hs => by
    simp [exec, xmtEvtInstr, execManrcvdone, dispatchManrcvdone, hs]) h
  case xmtWaitRcvDoneManrcveror => exact opStep_of_xmtKey _ _ .manrcveror _ s t rfl (fun hs => by
    simp [exec, xmtEvtInstr, execManrcveror, dispatchManrcveror, hs]) h
  case xmtWaitRcvDoneTimeout => exact opStep_of_xmtKey _ _ .timeout _ s t rfl (fun hs => by
    simp [exec, xmtEvtInstr, execTimeout, dispatchTimeout, hs]) h
  case xmtWaitFrameTimeTimeout => exact opStep_of_xmtKey _ _ .timeout _ s t rfl (fun hs => by
    simp [exec, xmtEvtInstr, execTimeout, dispatchTimeout, hs]) h
  case xmtWaitBackFrameTimeTimeout => exact opStep_of_xmtKey _ _ .timeout _ s t rfl (fun hs => by
    simp [exec, xmtEvtInstr, execTimeout, dispatchTimeout, hs]) h
  case ctlIdleMsgenq => exact opStep_of_ctlKey _ _ .msgenq _ s t rfl (fun hs => by
    simp [exec, ctlEvtInstr, execMsgenq, dispatchMsgenq, hs]) h
  case ctlWaitMsgenq => exact opStep_of_ctlKey _ _ .msgenq _ s t rfl (fun hs => by
    simp [exec, ctlEvtInstr, execMsgenq, dispatchMsgenq, hs]) h
  case ctlWaitXactdone => exact opStep_of_ctlKey _ _ .xactdone _ s t rfl (fun hs => by
    simp [exec, ctlEvtInstr, execXactdone, dispatchXactdone, hs]) h
  case xmtDefault st e =>
    simp only [exec, execXmtDefault] at h
    split at h
    · contradiction
    · obtain ⟨hs, rfl⟩ := inXmtState_next _ _ _ _ h
      exact .xmt e _ rfl (.ignored e (by rw [hs]; exact Bool.eq_false_iff.mpr ‹_›))
  case ctlDefault st e =>
    simp only [exec, execCtlDefault] at h
    split at h
    · contradiction
    · obtain ⟨hs, h⟩ := inCtlState_next _ _ _ _ h
      injection h with h; subst h
      cases st <;> cases e <;> simp [ctlHasRow] at *
      exact .ctl .xactdone _ rfl (.ignored hs)
  all_goals first
    | (injection h with h; subst h; exact .answered _)
    | (rw [evalAnswerRow_next _ _ _ _ _ h]; exact .answered _)
    | (rw [evalRepeatRow_next _ _ _ _ _ h]; exact .answered _)

/-- Every line. -/
theorem runLine_lineStep (l : Line) (s t : State) (h : runLine l s = .next t) : LineStep s l t := by
  cases l
  case op f bytes =>
    simp only [runLine, runOp] at h
    split at h
    · exact .op f bytes _ _ t ‹_› (exec_opStep _ _ _ h)
    · contradiction
  case dispatchCtl =>
    simp only [runLine, dispatchCtlHead] at h
    split at h
    · contradiction
    · exact .ctl _ [] _ _ t (.inl ⟨rfl, rfl⟩) ‹_› (exec_ctlStep _ _ _ h)
  case dispatchXmt =>
    simp only [runLine, dispatchXmtHead] at h
    split at h
    · contradiction
    · exact .xmt _ [] _ _ t (.inl ⟨rfl, rfl⟩) ‹_› (exec_xmtStep _ _ _ h)
  case xmtDone =>
    simp only [runLine, runXmtDone] at h
    split at h
    · contradiction
    · rename_i hn; injection h with h; subst h; exact .xmtDone (fun hc => by simpa [hc] using hn)
  case rcvDone bytes =>
    simp only [runLine, runRcvDone] at h
    split at h <;> split at h
    · contradiction
    · injection h with h; subst h; exact .rcvDoneUnarmed bytes ‹_› (by simp_all)
    · contradiction
    · rename_i hn
      split at h
      · contradiction
      · rename_i ho; injection h with h; subst h
        exact .rcvDone bytes _ _ ‹_› (fun hc => by simpa [hc] using hn) (fun hc hb => by simpa [hc, hb] using ho)
  case rcvErr =>
    simp only [runLine, runRcvErr] at h
    split at h
    · split at h
      · contradiction
      · injection h with h; subst h; exact .rcvErrUnarmed ‹_› (by simp_all)
    · injection h with h; subst h; exact .rcvErr _ _ ‹_›
  case edge =>
    simp only [runLine, runEdge] at h
    split at h
    · contradiction
    · rename_i hn; injection h with h; subst h; exact .edge (fun hc => by simpa [hc] using hn)
  case expire =>
    simp only [runLine, runExpire] at h
    split at h
    · contradiction
    · rename_i hn; injection h with h; subst h; exact .expire (fun hc => by simpa [hc] using hn)
  case debug on => injection h with h; subst h; exact .debug on
  case run =>
    simp only [runLine, runRun] at h
    split at h
    · simp only [dispatchCtlHead] at h
      split at h
      · contradiction
      · exact .ctl _ [.run] _ _ t (.inr ⟨rfl, rfl⟩) (by simpa using ‹_›) (exec_ctlStep _ _ _ h)
    · split at h
      · simp only [dispatchXmtHead] at h
        split at h
        · contradiction
        · exact .xmt _ [.run] _ _ t (.inr ⟨rfl, rfl⟩) (by simpa using ‹_›) (exec_xmtStep _ _ _ h)
      · rename_i hc hx; injection h with h; subst h; exact .runDone (by simpa using hc) (by simpa using hx)
  all_goals
    injection h with h; subst h
    refine .expanded _ _ ?_
    simp [feedsEvent, submits, List.mem_replicate, tickLine, encode, ctlEvtOf, xmtEvtOf]

/-- What EVT8 bytes decode to: the operation of an event, or one of the three calls, told by the first byte (R100). -/
inductive Evt8Case (c : Byte) : Instr → Prop
  | ctl (e : CtlEvt) (he : ctlEvtOf c = some e) : Evt8Case c (ctlEvtInstr e)
  | xmt (e : XmtEvt) (he : xmtEvtOf c = some e) : Evt8Case c (xmtEvtInstr e)
  | tick (b : Bool) (hc : c = 0x30#8) : Evt8Case c (.montick b)
  | submit (a d : Byte) (cb : Option CbT) (opt : OptT) (hc : c = 0x40#8) : Evt8Case c (.transmitmessage a d cb opt)
  | desc (n : Byte) (hc : c = 0x41#8) : Evt8Case c (.getstatusdesc n)

/-- The cases are complete. -/
theorem decodeEvt8_case (c : Byte) (tail rest : List Byte) (i : Instr) (hd : decodeEvt8 (c :: tail) = .ok i rest) :
    Evt8Case c i := by
  simp only [decodeEvt8] at hd
  split at hd
  · cases hd; exact .ctl _ ‹_›
  split at hd
  · cases hd; exact .xmt _ ‹_›
  split at hd
  · unfold decodeTick at hd
    split at hd
    · contradiction
    split at hd
    · cases hd; exact .tick _ ‹_›
    split at hd
    · cases hd; exact .tick _ ‹_›
    · contradiction
  split at hd
  · obtain ⟨a, d, cb, opt, rfl, _⟩ := decodeTransmit_ok hd; exact .submit a d cb opt ‹_›
  split at hd
  · unfold decodeDesc at hd
    split at hd
    · contradiction
    · cases hd; exact .desc _ ‹_›
  · contradiction

/-- An operation is of the format its bytes were read in. -/
theorem formatOf_decoded (o : Opc) (f : Format) (bytes rest : List Byte) (i : Instr) (hd : decode o f bytes = .ok i rest) :
    formatOf i = f := by
  cases f
  case evt8 =>
    match bytes with
    | [] => simp [decode, decodeEvt8] at hd
    | c :: tail =>
      cases decodeEvt8_case c tail rest i hd with
      | ctl e => cases e <;> rfl
      | xmt e => cases e <;> rfl
      | tick | submit | desc => rfl
  case xt12 =>
    simp only [decode, decodeXt12] at hd
    split at hd
    · split at hd
      · rename_i hk
        injection hd with hd; subst hd
        unfold keyInstr at hk
        split at hk
        · rename_i e _
          split at hk
          · rename_i c _; injection hk with hk; subst hk; cases c <;> cases e <;> rfl
          · contradiction
        · split at hk
          · rename_i e x _ _; injection hk with hk; subst hk; cases x <;> cases e <;> rfl
          · contradiction
      · contradiction
    · contradiction
  case answer =>
    simp only [decode, decodeAnswer] at hd; split at hd
    · cases hd; unfold answerInstr; split <;> rfl
    · contradiction
  case again =>
    simp only [decode, decodeRepeat] at hd; split at hd
    · cases hd; unfold repeatInstr; split <;> rfl
    · contradiction
  case st4 =>
    simp only [decode, decodeSt4] at hd; split at hd
    · contradiction
    · split at hd
      · rename_i st _; cases hd; cases st <;> rfl
      · contradiction

/-- Only the events and the dispatch keys feed an event into a machine. -/
theorem feedsInstr_of_format (i : Instr) (he : formatOf i ≠ .evt8) (hx : formatOf i ≠ .xt12) : feedsInstr i = false := by
  unfold feedsInstr; split <;> simp [he, hx]

/-- An operation that a line under the host's contract gives feeds no event into a machine (R276). -/
theorem feedsInstr_of_contract (o : Opc) (f : Format) (bytes rest : List Byte) (i : Instr)
    (hd : decode o f bytes = .ok i rest) (hl : feedsEvent (.op f bytes) = false) : feedsInstr i = false := by
  have hf := formatOf_decoded o f bytes rest i hd
  cases f
  case evt8 =>
    match bytes with
    | [] => contradiction
    | c :: tail =>
      simp only [feedsEvent, Bool.or_eq_false_iff] at hl
      cases decodeEvt8_case c tail rest i hd with
      | ctl e he => simp [he] at hl
      | xmt e he => simp [he] at hl
      | tick | submit | desc => rfl
  case xt12 => contradiction
  all_goals exact feedsInstr_of_format i (by rw [hf]; decide) (by rw [hf]; decide)

/-- The operation a monitor tick's line decodes to comes from the code 0x30. -/
theorem tick_line (o : Opc) (f : Format) (bytes rest : List Byte) (sample : Bool)
    (hd : decode o f bytes = .ok (.montick sample) rest) : ∃ tail, f = .evt8 ∧ bytes = 0x30#8 :: tail := by
  obtain rfl : Format.evt8 = f := formatOf_decoded o f bytes rest _ hd
  match bytes with
  | [] => contradiction
  | c :: tail =>
    generalize hi : Instr.montick sample = i at hd
    cases decodeEvt8_case c tail rest i hd with
    | ctl e => cases e <;> contradiction
    | xmt e => cases e <;> contradiction
    | tick _ hc => exact ⟨tail, rfl, by rw [hc]⟩
    | submit | desc => contradiction

/-- The operation the line of a `TransmitMessage` decodes to comes from the code 0x40. -/
theorem submit_line (o : Opc) (f : Format) (bytes rest : List Byte) (addr data : Byte) (cb : Option CbT) (opt : OptT)
    (hd : decode o f bytes = .ok (.transmitmessage addr data cb opt) rest) :
    ∃ tail, f = .evt8 ∧ bytes = 0x40#8 :: tail := by
  obtain rfl : Format.evt8 = f := formatOf_decoded o f bytes rest _ hd
  match bytes with
  | [] => contradiction
  | c :: tail =>
    generalize hi : Instr.transmitmessage addr data cb opt = i at hd
    cases decodeEvt8_case c tail rest i hd with
    | ctl e => cases e <;> contradiction
    | xmt e => cases e <;> contradiction
    | submit _ _ _ _ hc => exact ⟨tail, rfl, by rw [hc]⟩
    | tick | desc => contradiction

/-- The script after its first line follows. -/
theorem Follows.tail {s : State} {l : Line} {ls : List Line} (hs : s.script = l :: ls) : Follows s ls :=
  fun k hk => .inl (by rw [hs]; exact List.mem_cons_of_mem _ hk)

/-- The two outcomes of `TransmitMessage` (R231) as cases of a step. -/
theorem stepCase_of_submit (s : State) (bytes : List Byte) (ls : List Line)
    (hs : s.script = .op .evt8 (0x40#8 :: bytes) :: ls) (addr data : Byte) (cb : Option CbT) (opt : OptT) (rest : List Byte)
    (hd : decode s.params.opc .evt8 (0x40#8 :: bytes) = .ok (.transmitmessage addr data cb opt) rest) :
    StepCase s (transmitMessage (newMessage addr data cb opt) { s with script := ls }) := by
  by_cases hq : s.q.length < s.params.qdepth
  · rw [transmitMessage_of_room _ { s with script := ls } hq]; exact .accepted bytes ls hs _ rfl rfl hq ⟨rest, hd⟩
  · rw [transmitMessage_of_full _ { s with script := ls } (Nat.not_lt.mp hq)]
    exact .full ls (.tail hs) _ (Nat.not_lt.mp hq)

/-- Every step: what a proof about all steps starts from. -/
theorem step_cases (s t : State) (h : step s = .next t) : StepCase s t := by
  unfold step at h
  split at h
  · rename_i hs
    injection h with h; subst h
    exact .quiet s.script (fun k hk => .inl hk)
  · rename_i l rest hs
    have hrest : Follows s rest := .tail hs
    have hrun : ∀ ls : List Line, (ls = [] ∨ ls = [.run]) → Follows s (ls ++ rest) := by
      rintro ls (rfl | rfl) k hk
      · exact hrest k hk
      · rcases List.mem_append.mp hk with hk | hk
        · exact .inr (by rw [List.mem_singleton.mp hk]; exact ⟨rfl, rfl⟩)
        · exact hrest k hk
    cases runLine_lineStep l _ t h with
    | op f bytes after i _ hd h =>
      cases hl : feedsEvent (.op f bytes) with
      | true =>
        cases h with
        | xmt e _ _ h => exact .xmtOp _ rest hs hl e t h
        | ctl e _ _ h => exact .ctlOp _ rest hs hl e t h
        | tick b hi =>
          subst hi
          obtain ⟨tail, rfl, rfl⟩ := tick_line _ _ _ _ _ hd
          exact .tick tail rest b hs
        | submit a d c o hi =>
          subst hi
          obtain ⟨tail, rfl, rfl⟩ := submit_line _ _ _ _ _ _ _ _ hd
          exact stepCase_of_submit s tail rest hs a d c o _ hd
        | answered r => exact .answered rest hrest r
      | false =>
        have hn := feedsInstr_of_contract _ _ _ _ _ hd hl
        cases h with
        | xmt e _ hf h => rw [hn] at hf; contradiction
        | ctl e _ hf h => rw [hn] at hf; contradiction
        | tick b hi =>
          subst hi
          obtain ⟨tail, rfl, rfl⟩ := tick_line _ _ _ _ _ hd
          exact .tick tail rest b hs
        | submit a d c o hi =>
          subst hi
          obtain ⟨tail, rfl, rfl⟩ := submit_line _ _ _ _ _ _ _ _ hd
          exact stepCase_of_submit s tail rest hs a d c o _ hd
        | answered r => exact .answered rest hrest r
    | ctl _ ls e later _ hl hq h => exact .ctl (ls ++ rest) (hrun ls (hl.imp And.right And.right)) e later t hq h
    | xmt _ ls e later _ hl hq h => exact .xmt (ls ++ rest) (hrun ls (hl.imp And.right And.right)) e later t hq h
    | runDone => exact .quiet rest hrest
    | xmtDone hb => exact .xmtDone rest hrest hb
    | rcvDone bytes b n ha hb ho => exact .rcvDone rest hrest bytes b n ha hb ho
    | rcvDoneUnarmed => exact .posted rest hrest _ (.inl rfl)
    | rcvErr b n ha => exact .rcvErr rest hrest b n ha
    | rcvErrUnarmed => exact .posted rest hrest _ (.inr (.inl rfl))
    | edge => exact .posted rest hrest _ (.inr (.inr rfl))
    | expire hb => exact .expire rest hrest hb
    | debug on => exact .debug rest hrest on
    | expanded _ ls hls =>
      exact .quiet (ls ++ rest) (fun k hk => (List.mem_append.mp hk).elim (fun hk => .inr (hls k hk)) (hrest k))

/-- A step under the host's contract leaves a script that keeps it. -/
theorem Follows.hostContract {s : State} {ls : List Line} (h : Follows s ls) (hc : hostContract s) :
    ∀ l ∈ ls, feedsEvent l = false := fun l hl => (h l hl).elim (hc l) And.left

end Sys2Proof.Machine
end

