-- ==== Sys2Proof/Laws/PerInstr.lean ====
section
/-! SUPPORT. Statements about every operation, one lemma per constructor of `Instr`. -/

namespace Sys2Proof.Laws.EncodeWidth

/-- Bytes of the code of a format: a dispatch key and a frame take two, the other codes one (R90, R100, R101, R104). -/
def codeBytes : Format → Nat
  | .evt8 => 1
  | .xt12 => 2
  | .answer => 2
  | .again => 2
  | .st4 => 1

/-- Bytes of the operands that follow the code: those of the three calls of EVT8 (R100). -/
def operandBytes : Instr → Nat
  | .montick _ => 1
  | .transmitmessage _ _ cb opt => 2 + (callbackBytes cb).length + (handleBytes opt).length
  | .getstatusdesc _ => 1
  | _ => 0

/-- An operation's encoding has the width of its format's code and of its operands: only the opaque handles of
`TransmitMessage` vary in length (R106). -/
def Statement (i : Instr) : Prop := ∀ o : Opc, (encode o i).length = codeBytes (formatOf i) + operandBytes i

theorem msgenq : Statement .msgenq := fun _ => rfl
theorem xactdone : Statement .xactdone := fun _ => rfl
theorem start : Statement .start := fun _ => rfl
theorem timeout : Statement .timeout := fun _ => rfl
theorem manxmtdone : Statement .manxmtdone := fun _ => rfl
theorem manrcvdone : Statement .manrcvdone := fun _ => rfl
theorem manrcveror : Statement .manrcveror := fun _ => rfl
theorem edgeseen : Statement .edgeseen := fun _ => rfl
theorem montick (sample : Bool) : Statement (.montick sample) := fun _ => rfl
theorem transmitmessage (addr : Byte) (data : Byte) (cb : Option CbT) (opt : OptT) :
    Statement (.transmitmessage addr data cb opt) := fun _ => by
  simp [encode, formatOf, codeBytes, operandBytes]; omega
theorem getstatusdesc (status : Byte) : Statement (.getstatusdesc status) := fun _ => rfl
theorem xmtIdleStart : Statement .xmtIdleStart := fun _ => rfl
theorem xmtWaitXmtDoneManxmtdone : Statement .xmtWaitXmtDoneManxmtdone := fun _ => rfl
theorem xmtWaitXmtDoneManrcveror : Statement .xmtWaitXmtDoneManrcveror := fun _ => rfl
theorem xmtWaitXmtDoneTimeout : Statement .xmtWaitXmtDoneTimeout := fun _ => rfl
theorem xmtWaitXmtEchoManrcvdone : Statement .xmtWaitXmtEchoManrcvdone := fun _ => rfl
theorem xmtWaitXmtEchoManrcveror : Statement .xmtWaitXmtEchoManrcveror := fun _ => rfl
theorem xmtWaitXmtEchoTimeout : Statement .xmtWaitXmtEchoTimeout := fun _ => rfl
theorem xmtWaitRcvDoneEdgeseen : Statement .xmtWaitRcvDoneEdgeseen := fun _ => rfl
theorem xmtWaitRcvDoneManrcvdone : Statement .xmtWaitRcvDoneManrcvdone := fun _ => rfl
theorem xmtWaitRcvDoneManrcveror : Statement .xmtWaitRcvDoneManrcveror := fun _ => rfl
theorem xmtWaitRcvDoneTimeout : Statement .xmtWaitRcvDoneTimeout := fun _ => rfl
theorem xmtWaitFrameTimeTimeout : Statement .xmtWaitFrameTimeTimeout := fun _ => rfl
theorem xmtWaitBackFrameTimeTimeout : Statement .xmtWaitBackFrameTimeTimeout := fun _ => rfl
theorem ctlIdleMsgenq : Statement .ctlIdleMsgenq := fun _ => rfl
theorem ctlWaitMsgenq : Statement .ctlWaitMsgenq := fun _ => rfl
theorem ctlWaitXactdone : Statement .ctlWaitXactdone := fun _ => rfl
theorem xmtDefault (st : XmtState) (ev : XmtEvt) : Statement (.xmtDefault st ev) := fun _ => rfl
theorem ctlDefault (st : CtlState) (ev : CtlEvt) : Statement (.ctlDefault st ev) := fun _ => rfl
theorem ansLevel (addr : Byte) (data : Byte) : Statement (.ansLevel addr data) := fun _ => rfl
theorem ansSpcMaybeCompare : Statement .ansSpcMaybeCompare := fun _ => rfl
theorem ansSpcMaybeWriteMemoryLocation (data : Byte) :
    Statement (.ansSpcMaybeWriteMemoryLocation data) := fun _ => rfl
theorem ansSpcRequiredQueryShortAddr : Statement .ansSpcRequiredQueryShortAddr := fun _ => rfl
theorem ansSpcRequiredVerifyShortAddr (data : Byte) : Statement (.ansSpcRequiredVerifyShortAddr data) := fun _ => rfl
theorem ansSpcNoneInitialise (data : Byte) : Statement (.ansSpcNoneInitialise data) := fun _ => rfl
theorem ansSpcNoneRandomise (data : Byte) : Statement (.ansSpcNoneRandomise data) := fun _ => rfl
theorem ansSpcNoneWithdraw (data : Byte) : Statement (.ansSpcNoneWithdraw data) := fun _ => rfl
theorem ansSpcNoneSearchaddrh (data : Byte) : Statement (.ansSpcNoneSearchaddrh data) := fun _ => rfl
theorem ansSpcNoneSearchaddrm (data : Byte) : Statement (.ansSpcNoneSearchaddrm data) := fun _ => rfl
theorem ansSpcNoneSearchaddrl (data : Byte) : Statement (.ansSpcNoneSearchaddrl data) := fun _ => rfl
theorem ansSpcNoneProgramShortAddr (data : Byte) : Statement (.ansSpcNoneProgramShortAddr data) := fun _ => rfl
theorem ansSpcNoneEnableDeviceType (data : Byte) : Statement (.ansSpcNoneEnableDeviceType data) := fun _ => rfl
theorem ansSpcNoneDtr (data : Byte) : Statement (.ansSpcNoneDtr data) := fun _ => rfl
theorem ansSpcNoneDtr1 (data : Byte) : Statement (.ansSpcNoneDtr1 data) := fun _ => rfl
theorem ansSpcNoneDtr2 (data : Byte) : Statement (.ansSpcNoneDtr2 data) := fun _ => rfl
theorem ansQRequiredQueryStatus (addr : Byte) : Statement (.ansQRequiredQueryStatus addr) := fun _ => rfl
theorem ansQRequiredVersionMinlevel (addr : Byte) (data : Byte) :
    Statement (.ansQRequiredVersionMinlevel addr data) := fun _ => rfl
theorem ansQRequiredContentDtr1Dtr2 (addr : Byte) (data : Byte) :
    Statement (.ansQRequiredContentDtr1Dtr2 addr data) := fun _ => rfl
theorem ansQRequiredActualLevelFadeRate (addr : Byte) (data : Byte) :
    Statement (.ansQRequiredActualLevelFadeRate addr data) := fun _ => rfl
theorem ansQRequiredSceneLevelReadMemory (addr : Byte) (data : Byte) :
    Statement (.ansQRequiredSceneLevelReadMemory addr data) := fun _ => rfl
theorem ansQRequiredGearTypeExtVersion (addr : Byte) (data : Byte) :
    Statement (.ansQRequiredGearTypeExtVersion addr data) := fun _ => rfl
theorem ansQMaybeGearPresentMissingShort (addr : Byte) (data : Byte) :
    Statement (.ansQMaybeGearPresentMissingShort addr data) := fun _ => rfl
theorem ansQMaybePowerFailure (addr : Byte) : Statement (.ansQMaybePowerFailure addr) := fun _ => rfl
theorem ansDefault (addr : Byte) (data : Byte) : Statement (.ansDefault addr data) := fun _ => rfl
theorem rptInitialise (data : Byte) : Statement (.rptInitialise data) := fun _ => rfl
theorem rptRandomise : Statement .rptRandomise := fun _ => rfl
theorem rptRangeResetEnableWriteMemoryBroadcast (data : Byte) :
    Statement (.rptRangeResetEnableWriteMemoryBroadcast data) := fun _ => rfl
theorem rptRangeResetEnableWriteMemoryIndividual (addr : Byte) (data : Byte) :
    Statement (.rptRangeResetEnableWriteMemoryIndividual addr data) := fun _ => rfl
theorem rptRangeRefsyspowerSelectDimCurveBroadcast (data : Byte) :
    Statement (.rptRangeRefsyspowerSelectDimCurveBroadcast data) := fun _ => rfl
theorem rptRangeRefsyspowerSelectDimCurveIndividual (addr : Byte) (data : Byte) :
    Statement (.rptRangeRefsyspowerSelectDimCurveIndividual addr data) := fun _ => rfl
theorem rptDefault (addr : Byte) (data : Byte) : Statement (.rptDefault addr data) := fun _ => rfl
theorem stOk : Statement .stOk := fun _ => rfl
theorem stRcvOk : Statement .stRcvOk := fun _ => rfl
theorem stRcvErr : Statement .stRcvErr := fun _ => rfl
theorem stXmtTimeout : Statement .stXmtTimeout := fun _ => rfl
theorem stBusErr : Statement .stBusErr := fun _ => rfl
theorem stEchoErr : Statement .stEchoErr := fun _ => rfl
theorem stRcvTimeout : Statement .stRcvTimeout := fun _ => rfl
theorem stBusCol : Statement .stBusCol := fun _ => rfl
theorem stIllOp : Statement .stIllOp := fun _ => rfl
theorem stBusMonBad : Statement .stBusMonBad := fun _ => rfl

end Sys2Proof.Laws.EncodeWidth
end

