-- ==== Sys2Proof/Laws/Properties.lean ====
section
/-! SUPPORT. The properties of XMT that the document states (R199(a) to (e)), over all states and whatever the opcode constants; and
that the block keeps the host's opaque handles within their types (R8, R24). -/

namespace Sys2Proof.Machine

/-! ### R199: what the document says of XMT -/

/-- R199(a). -/
theorem echo_comparison : echoComparison := by
  intro s t hs h
  have hm : echoMatches s = true ↔ ∀ p ∈ echoPairs.take s.params.frameLen, memRead p.1 s = memRead p.2 s := by
    simp only [echoMatches, List.all_eq_true, beq_iff_eq]
  refine ⟨fun he => ?_, fun ⟨p, hp, hne⟩ => ?_⟩
  · have he := hm.mpr he
    cases exec_xmtStep .manrcvdone s t h <;> simp_all [xmtHasRow]
  · have he : echoMatches s = false := Bool.eq_false_iff.mpr fun he => hne (hm.mp he p hp)
    clear hm
    cases exec_xmtStep .manrcvdone s t h <;> simp_all [xmtHasRow]

/-- R199(b). -/
theorem fail_fast_idempotent : failFastIdempotent := by
  intro s hb hs
  have key : ∀ s : State, s.monBad = true → s.xmtState = .idle →
      exec .start s = .next (postCtl .xactdone (setStatus .busMonBad s)) := fun s hb hs => by
    simp [exec, execStart, dispatchStart, hs, xmtIdleStartRule, hb, failFast]
  exact ⟨key s hb hs, key _ hb hs, rfl⟩

/-- An event counts one transmission if it starts a frame or starts it again, and none otherwise. -/
theorem XmtStep.transmissions {s t : State} {e : XmtEvt} (h : XmtStep s e t) :
    Machine.transmissions t = Machine.transmissions s +
      if s.xmtState ≠ .waitXmtDone ∧ t.xmtState = .waitXmtDone then 1 else 0 := by
  cases h
  all_goals
    simp_all [Machine.transmissions, startFrame_eq, enterWaitRcvDone_eq, List.countP_append]

/-- R199(c). -/
theorem repeat_correctness : repeatCorrectness := by
  intro s t e h
  have h := exec_xmtStep e s t h
  have ht := h.transmissions
  refine ⟨fun hs hne => ?_, fun hs hg => ?_, fun hs he hr => ?_, fun hs hi => ?_⟩
  · cases h <;> simp_all
  · cases h <;> simp_all
  · subst he
    cases h <;> simp_all [xmtHasRow, startFrame_eq, frameBytes, memRead]
  · cases h <;> simp_all

/-- R199(d). -/
theorem failures_surfaced : failuresSurfaced := by
  intro s t e h
  have h := exec_xmtStep e s t h
  have ht := h.transmissions
  refine ⟨fun hf => ?_, fun ⟨hs, he⟩ => ?_⟩
  · have hr : xmtHasRow s.xmtState e = true := by
      rcases hf with hf | ⟨hs, rfl, _⟩
      · simp only [List.mem_cons, Prod.mk.injEq, List.not_mem_nil, or_false] at hf
        rcases hf with ⟨hs, rfl⟩ | ⟨hs, rfl⟩ | ⟨hs, rfl⟩ | ⟨hs, rfl⟩ | ⟨hs, rfl⟩ <;> rw [hs] <;> rfl
      · rw [hs]; rfl
    cases h
    case ignored hx => rw [hr] at hx; cases hx
    all_goals simp_all
  · subst he
    cases h
    case ignored hx => rw [hs] at hx; cases hx
    all_goals simp_all

/-- R199(e). -/
theorem one_report_per_start : oneReportPerStart := by
  intro s t e h
  cases exec_xmtStep e s t h
  case ignored hx =>
    have hn : ¬(s.xmtState = .idle ∧ e = .start) := by rintro ⟨hs, rfl⟩; rw [hs] at hx; cases hx
    simp [hn]
  all_goals simp_all [xmtBusy, List.count_append]
  all_goals omega

/-- R199, all of it. -/
theorem xmt_properties : xmtProperties :=
  ⟨echo_comparison, fail_fast_idempotent, repeat_correctness, failures_surfaced, one_report_per_start⟩

/-! ### R8, R24: the opaque types of the host -/

/-- An opaque type has a value. -/
theorem handleOfType_someHandle (t : HandleType) : handleOfType t (someHandle t) = true := by
  cases t <;> simp [handleOfType, someHandle]

/-- A line that submits nothing submits nothing untyped. -/
theorem lineTyped_of_not_submits (p : Params) (l : Line) (h : submits l = false) : lineTyped p l := by
  intro f bytes rest addr data cb opt hl hd
  obtain ⟨tail, rfl, rfl⟩ := submit_line _ _ _ _ _ _ _ _ hd
  subst hl; simp [submits] at h

/-- An event of XMT changes no handle. -/
theorem XmtStep.handles {s t : State} {e : XmtEvt} (h : XmtStep s e t) :
    t.cur.cb = s.cur.cb ∧ t.cur.opt = s.cur.opt ∧ t.q = s.q ∧ t.delivered = s.delivered ∧ t.params = s.params ∧
      t.script = s.script := by
  cases h <;> simp

/-- An event of XMT keeps every handle in its type. -/
theorem handleInv_xmt {s t : State} {e : XmtEvt} (h : XmtStep s e t) (hi : handleInv s) : handleInv t := by
  obtain ⟨h1, h2, h3, h4, h5, _⟩ := h.handles
  simpa only [handleInv, messageTyped, h1, h2, h3, h4, h5] using hi

/-- An event of CTL keeps every handle in its type. -/
theorem handleInv_ctl {s t : State} {e : CtlEvt} (h : CtlStep s e t) (hi : handleInv s) : handleInv t := by
  obtain ⟨hc, hq, hd⟩ := hi
  cases h
  case dequeue m rest hs hm =>
    exact ⟨hq m (by simp [hm]), fun k hk => hq k (by rw [hm]; exact List.mem_cons_of_mem _ hk), hd⟩
  case deliver =>
    refine ⟨by simpa using hc, by simpa using hq, fun k hk => ?_⟩
    have hk : k ∈ s.delivered ∨ k = s.cur := by simpa using hk
    rcases hk with hk | rfl
    · simpa using hd k hk
    · simpa using hc
  all_goals exact ⟨hc, hq, hd⟩

/-- The block keeps the handles of its messages within `CB_T` and `OPT_T`, as long as the host submits values of these types. -/
theorem handleInv_step {s t : State} (h : step s = .next t) (hh : typedHost s) (hi : handleInv s) : handleInv t := by
  cases step_cases s t h with
  | xmt _ _ _ _ _ _ h => exact handleInv_xmt h hi
  | xmtOp _ _ _ _ _ _ h => exact handleInv_xmt h hi
  | ctl _ _ _ _ _ _ h => exact handleInv_ctl h hi
  | ctlOp _ _ _ _ _ _ h => exact handleInv_ctl h hi
  | accepted bytes ls hs m _ _ _ hd =>
    obtain ⟨rest, hd⟩ := hd
    refine ⟨hi.1, fun k hk => ?_, hi.2.2⟩
    rcases List.mem_append.mp hk with hk | hk
    · exact hi.2.1 k hk
    · rw [List.mem_singleton.mp hk]
      exact hh _ (by rw [hs]; exact List.mem_cons_self) _ _ _ _ _ _ _ rfl hd
  | _ => simpa [handleInv] using hi

/-- What follows in the script of a typed host is typed. -/
theorem Follows.lineTyped {s : State} {ls : List Line} (h : Follows s ls) (hh : typedHost s) :
    ∀ l ∈ ls, lineTyped s.params l :=
  fun l hl => (h l hl).elim (hh l) (fun hn => lineTyped_of_not_submits _ _ hn.2)

/-- A step leaves the host's script typed. -/
theorem typedHost_step {s t : State} (h : step s = .next t) (hh : typedHost s) : typedHost t := by
  have key : ∀ ls, Follows s ls → t.script = ls → t.params = s.params → typedHost t := by
    rintro ls hls rfl hp; unfold typedHost; rw [hp]; exact hls.lineTyped hh
  cases step_cases s t h with
  | xmt ls hls _ _ _ _ h => exact key ls hls h.handles.2.2.2.2.2 h.handles.2.2.2.2.1
  | xmtOp _ ls hs _ _ _ h => exact key ls (.tail hs) h.handles.2.2.2.2.2 h.handles.2.2.2.2.1
  | ctl ls hls _ _ _ _ h => exact key ls hls (by cases h <;> simp) (by cases h <;> simp)
  | ctlOp _ ls hs _ _ _ h => exact key ls (.tail hs) (by cases h <;> simp) (by cases h <;> simp)
  | tick _ ls _ hs => exact key ls (.tail hs) rfl rfl
  | accepted _ ls hs => exact key ls (.tail hs) rfl rfl
  | _ => exact key _ ‹_› (by simp) (by simp)

/-- After reset every handle is of its type, and the host has submitted nothing. -/
theorem handleInv_reset (p : Params) : handleInv (State.resetWith p) ∧ typedHost (State.resetWith p) := by
  simp [handleInv, typedHost, messageTyped, State.resetWith, blankMessage, handleOfType_someHandle]

end Sys2Proof.Machine
end

