-- ==== Sys2Proof/Laws/Runs.lean ====
section
/-! SUPPORT. Runs under the contracts of the environment: with the scheduler's fairness (R275) and the timer's (R281) no wait of XMT
lasts for ever (R200). -/

namespace Sys2Proof.Machine

/-- An event that leaves a busy XMT in its state is no expiry, touches no timer and takes nothing from `xmtq`. -/
theorem XmtStep.stays {s t : State} {e : XmtEvt} (h : XmtStep s e t) (hx : s.xmtState ≠ .idle)
    (hs : t.xmtState = s.xmtState) : e ≠ .timeout ∧ t.trace = s.trace ∧ t.xmtq = s.xmtq := by
  cases h
  case ignored h => exact ⟨by rintro rfl; revert h hx; cases s.xmtState <;> decide, rfl, rfl⟩
  all_goals simp_all

/-- An event of CTL touches no timer, and puts at most a `START` into `xmtq`. -/
theorem CtlStep.effect {s t : State} {e : CtlEvt} (h : CtlStep s e t) :
    (∃ acts, t.trace = s.trace ++ acts ∧ .timerOff ∉ acts ∧ ∀ ms, .timerOn ms ∉ acts) ∧
      ∃ more, t.xmtq = s.xmtq ++ more := by
  cases h
  case dequeue m rest hs hq => exact ⟨⟨[.queueGet m, .postXmt .start], rfl, by simp⟩, [.start], rfl⟩
  case deliver =>
    refine ⟨?_, [], by simp⟩
    by_cases hr : s.params.ctlBusyEnq = .defer ∧ s.q ≠ []
    · exact ⟨[.outputRcvMsg s.cur, .postCtl .msgenq], by simp [complete_of_repost _ hr], by simp⟩
    · exact ⟨[.outputRcvMsg s.cur], by simp [complete_of_not_repost _ hr], by simp⟩
  all_goals exact ⟨⟨[], by simp, by simp⟩, [], by simp⟩

/-- A step in which a busy XMT stays in its state turns the timer neither on nor off, and takes from `xmtq` at most its
oldest event, which is no expiry. -/
theorem step_stays {s t : State} (h : step s = .next t) (hx : s.xmtState ≠ .idle) (hs : t.xmtState = s.xmtState) :
    (∃ acts, t.trace = s.trace ++ acts ∧ .timerOff ∉ acts ∧ ∀ ms, .timerOn ms ∉ acts) ∧
      ((∃ more, t.xmtq = s.xmtq ++ more) ∨ ∃ e, s.xmtq = e :: t.xmtq ∧ e ≠ .timeout) := by
  cases step_cases s t h with
  | xmt ls _ e later _ hq h =>
    obtain ⟨he, htr, hxq⟩ := h.stays hx hs
    exact ⟨⟨[], by simp [htr], by simp⟩, .inr ⟨e, by rw [hxq]; exact hq, he⟩⟩
  | xmtOp _ ls _ _ e _ h =>
    obtain ⟨_, htr, hxq⟩ := h.stays hx hs
    exact ⟨⟨[], by simp [htr], by simp⟩, .inl ⟨[], by simp [hxq]⟩⟩
  | ctl _ _ _ _ _ _ h => exact ⟨h.effect.1, .inl h.effect.2⟩
  | ctlOp _ _ _ _ _ _ h => exact ⟨h.effect.1, .inl h.effect.2⟩
  | accepted => exact ⟨⟨_, rfl, by simp⟩, .inl ⟨[], by simp⟩⟩
  | full => exact ⟨⟨_, rfl, by simp⟩, .inl ⟨[], by simp⟩⟩
  | tick => exact ⟨⟨[_], rfl, by simp⟩, .inl ⟨[], by simp⟩⟩
  | _ => exact ⟨⟨[], by simp, by simp⟩, .inl ⟨_, by simp; rfl⟩⟩

/-- A step that takes an `EXPIRE` line queues the expiry (R107). -/
theorem step_expire {s t : State} {rest : List Line} (hs : s.script = .expire :: rest) (h : step s = .next t) :
    t.xmtq = s.xmtq ++ [.timeout] := by
  simp only [step, hs, runLine, runExpire] at h
  split at h
  · contradiction
  · injection h with h; subst h; rfl

/-- A step that serves `xmtq` while a busy XMT stays in its state takes the oldest event, which is no expiry. -/
theorem step_serves {s t : State} (h : step s = .next t) (hx : s.xmtState ≠ .idle) (hs : t.xmtState = s.xmtState)
    (hq : s.xmtq ≠ []) (hl : s.script.head? = some .dispatchXmt ∨ s.script.head? = some .run ∧ s.ctlq = []) :
    ∃ e, s.xmtq = e :: t.xmtq ∧ e ≠ .timeout := by
  obtain ⟨e, later, hq⟩ := List.exists_cons_of_ne_nil hq
  have key : ∀ ls, exec (xmtEvtInstr e) { s with script := ls, xmtq := later } = .next t →
      ∃ e, s.xmtq = e :: t.xmtq ∧ e ≠ .timeout := fun ls h => by
    obtain ⟨he, _, hxq⟩ := (exec_xmtStep e _ _ h).stays hx hs
    exact ⟨e, by rw [hxq]; exact hq, he⟩
  rcases hl with hl | ⟨hl, hc⟩ <;> obtain ⟨rest, hscr⟩ := List.head?_eq_some_iff.mp hl
  · exact key rest (by simpa [step, hscr, runLine, dispatchXmtHead, hq] using h)
  · exact key (.run :: rest) (by simpa [step, hscr, runLine, runRun, hc, dispatchXmtHead, hq, expand] using h)

variable {put : Nat → List Line} {run : Nat → State}

/-- While XMT stays in a state, a queued expiry only moves towards the head of `xmtq`. -/
theorem expiry_moves_up (hrun : isRun put run) {x : XmtState} (hx : x ≠ .idle) {n : Nat}
    (hst : ∀ m, n ≤ m → (run m).xmtState = x) {pre post : List XmtEvt} (hq : (run n).xmtq = pre ++ .timeout :: post)
    (d : Nat) : ∃ pre' post', (run (n + d)).xmtq = pre' ++ .timeout :: post' ∧ pre'.length ≤ pre.length := by
  induction d with
  | zero => exact ⟨pre, post, hq, le_rfl⟩
  | succ d ih =>
    obtain ⟨pre', post', hq', hle⟩ := ih
    obtain ⟨_, ⟨more, hm⟩ | ⟨e, he, hne⟩⟩ := step_stays (hrun (n + d))
      (show (run (n + d)).xmtState ≠ .idle by rw [hst _ (by omega)]; exact hx)
      (show (run (n + d + 1)).xmtState = (run (n + d)).xmtState by rw [hst _ (by omega), hst _ (by omega)])
    · exact ⟨pre', post' ++ more, by rw [← Nat.add_assoc, hm]; simp [expand, hq'], hle⟩
    · match pre' with
      | [] => exact absurd (by simpa [expand, hq'] using (List.cons.inj (he.symm.trans hq')).1) hne
      | a :: l =>
        refine ⟨l, post', ?_, by simp at hle; omega⟩
        exact (List.cons.inj (he.symm.trans hq')).2

/-- While XMT stays in a state other than Idle, no expiry is queued: the scheduler would dispatch it. -/
theorem no_expiry_queued (hrun : isRun put run) (hsched : schedulerContract put run) {x : XmtState} (hx : x ≠ .idle)
    {n : Nat} (hst : ∀ m, n ≤ m → (run m).xmtState = x) (k : Nat) :
    ∀ m (pre post : List XmtEvt), n ≤ m → pre.length = k → (run m).xmtq ≠ pre ++ .timeout :: post := by
  induction k using Nat.strong_induction_on with
  | _ k ih =>
    intro m pre post hm hk hq
    obtain ⟨m', hm', hserve⟩ := hsched.2 m (by simp [hq])
    obtain ⟨d, rfl⟩ := Nat.exists_eq_add_of_le hm'
    obtain ⟨pre', post', hq', hle⟩ := expiry_moves_up hrun hx (fun i hi => hst i (le_trans hm hi)) hq d
    obtain ⟨e, he, hne⟩ := step_serves (hrun (m + d))
      (show (run (m + d)).xmtState ≠ .idle by rw [hst _ (by omega)]; exact hx)
      (show (run (m + d + 1)).xmtState = (run (m + d)).xmtState by rw [hst _ (by omega), hst _ (by omega)])
      (show (run (m + d)).xmtq ≠ [] by simp [hq'])
      (hserve.resolve_left (by simp [hq']))
    match pre' with
    | [] => exact hne (List.cons.inj (he.symm.trans hq')).1
    | a :: l =>
      exact ih l.length (by simp at hle; omega) (m + d + 1) l post' (by omega) rfl (List.cons.inj (he.symm.trans hq')).2

/-- R200 with its liveness hypotheses: in a run with a fair scheduler (R275) and a timer that keeps its contract (R281), in
which a busy XMT always has its timer armed or its expiry queued (`timerInv`), XMT stays in no state but Idle for
ever. -/
theorem every_wait_ends (hrun : isRun put run) (hsched : schedulerContract put run) (htimer : timerContractKept put run)
    (hinv : ∀ n, timerInv (run n)) (n : Nat) (hx : (run n).xmtState ≠ .idle) :
    ∃ m, n ≤ m ∧ (run m).xmtState ≠ (run n).xmtState := by
  by_contra hno
  have hst : ∀ m, n ≤ m → (run m).xmtState = (run n).xmtState := fun m hm => by
    by_contra hne; exact hno ⟨m, hm, hne⟩
  have hnone : ∀ m, n ≤ m → .timeout ∉ (run m).xmtq := fun m hm hmem => by
    obtain ⟨pre, post, hq⟩ := List.append_of_mem hmem
    exact no_expiry_queued hrun hsched hx hst _ m pre post hm rfl hq
  obtain ⟨m, hm, hexp | ⟨acts, htr, hacts⟩⟩ := htimer.2 n ((hinv n hx).resolve_right (hnone n le_rfl))
  · obtain ⟨rest, hs⟩ := List.head?_eq_some_iff.mp hexp
    exact hnone (m + 1) (by omega) (by simp [step_expire hs (hrun m)])
  · obtain ⟨⟨acts', htr', hoff, hon⟩, _⟩ := step_stays (hrun m)
      (show (run m).xmtState ≠ .idle by rw [hst m hm]; exact hx)
      (show (run (m + 1)).xmtState = (run m).xmtState by rw [hst _ (by omega), hst m hm])
    obtain rfl := List.append_cancel_left (htr.symm.trans htr')
    exact hacts.elim hoff (fun ⟨ms, h⟩ => hon ms h)

end Sys2Proof.Machine
end

