-- ==== Sys2Proof/Tests/Slice0.lean ====
section
/-! SUPPORT. The model's own tests.  Expected values are the spec's: the encodings of 30_encoding.md and the vectors of
95_test_vectors.md (named in the comments).  The last part gives, for every statement with hypotheses, a concrete case that
meets them. -/

namespace Sys2Proof.Tests

open Sys2Proof Sys2Proof.Machine

/-! ### Helpers -/

/-- A state in the middle of a transaction: the registers the vectors of 95_test_vectors.md B3 set; all others at their reset values, CTL in
Wait. -/
def mid (x : XmtState) (addr data : Byte) (st : ResultStatus) (a : AnswerExpectation) (rpt : Bool) : State :=
  { State.reset with
    ctlState := .wait
    xmtState := x
    cur := { blankMessage with addr := addr, data := data, status := st }
    ans := a
    rpt := rpt }

/-- The state with one line to offer. -/
def offering (l : Line) (s : State) : State := { s with script := [l] }

/-- The default parameters with every contract of the environment dropped. -/
def droppedContracts : Params :=
  { defaultParams with
    transmitContract := false, receiveContract := false, echoOrderContract := false, timerContract := false }

/-- A message with a frame. -/
def msg (addr data : Byte) : BusMessage := { blankMessage with addr := addr, data := data }

/-- State of XMT, status, and the actions an operation emitted from an empty trace; nothing for a stop. -/
def seen (r : Result) : Option (XmtState × ResultStatus × List Action) :=
  match r with
  | .next t => some (t.xmtState, t.cur.status, t.trace)
  | .fault _ => none
  | .refused _ => none

/-- One field of the next state; nothing for a stop. -/
def after {α : Type} (f : State → α) (r : Result) : Option α :=
  match r with
  | .next t => some (f t)
  | .fault _ => none
  | .refused _ => none

/-- Every listed byte string decodes, in the given format, to the operation beside it, with no byte left over. -/
def decodes (f : Format) (rows : List (List Byte × Instr)) : Bool :=
  rows.all fun row => decide (decode defaultOpc f row.1 = .ok row.2 [])

/-! ### WellFormed: an ill-formed term for each check -/

/-- The frame 0xFF90 selects the row of query status, not the default row (R109). -/
theorem test_answerRowOk_refuses : answerRowOk defaultOpc (.ansDefault 0xFF 0x90) = false := by decide

/-- Randomise with data 0 is a row of its own (R141). -/
theorem test_repeatRowOk_refuses : repeatRowOk defaultOpc (.rptDefault 0xA7 0x00) = false := by decide

/-- (Idle, `START`) has a row (R177). -/
theorem test_xmtDefaultOk_refuses : xmtDefaultOk (.xmtDefault .idle .start) = false := by decide

/-- (Wait, `MSGENQ`) has a row (R234). -/
theorem test_ctlDefaultOk_refuses : ctlDefaultOk (.ctlDefault .wait .msgenq) = false := by decide

theorem test_wellFormed_refuses :
    wellFormed defaultOpc (.ansDefault 0xFF 0x90) = false ∧ wellFormed defaultOpc (.rptDefault 0xA7 0x00) = false ∧
    wellFormed defaultOpc (.xmtDefault .idle .start) = false ∧
    wellFormed defaultOpc (.ctlDefault .wait .msgenq) = false := by decide

/-! ### Decoding: every constructor from a word written out from 30_encoding.md -/

/-- R100: the event codes; operands as in notes/assumptions/6.md. -/
theorem test_decode_evt8 : decodes .evt8
    [([0x10], .msgenq), ([0x11], .xactdone), ([0x20], .start), ([0x21], .timeout), ([0x22], .manxmtdone),
     ([0x23], .manrcvdone), ([0x24], .manrcveror), ([0x25], .edgeseen),
     ([0x30, 0x00], .montick false), ([0x30, 0x01], .montick true),
     ([0x40, 0x01, 0x90, 0, 1, 0x12, 1, 0x34, 0], .transmitmessage 0x01 0x90 none [0x12, 0x34]),
     ([0x40, 0xFF, 0x00, 1, 1, 0x80, 1, 0x01, 0, 0], .transmitmessage 0xFF 0x00 (some [0x80, 0x01]) []),
     ([0x40, 0xFF, 0x00, 1, 0, 1, 2, 0], .transmitmessage 0xFF 0x00 (some []) [2]),
     ([0x41, 0x07], .getstatusdesc 0x07)] = true := by decide

/-- R103: the codes 0 to 3, in the order of the enumeration. -/
theorem test_answerCode :
    [AnswerExpectation.none, .maybe, .required, .error].map answerCode = [0, 1, 2, 3] ∧
    [0, 1, 2, 3].map answerOfCode = [AnswerExpectation.none, .maybe, .required, .error] := by decide

/-- R107: `TX 0x01 0x90`, without callback and option (R231's example). -/
theorem test_txLine : txLine defaultParams 0x01 0x90 none none = .op .evt8 [0x40, 0x01, 0x90, 0, 0] := by decide

/-- R8, U16: a platform whose options are words of two bytes and whose callbacks are two handles. -/
theorem test_handleTypes :
    let p := { defaultParams with cbT := .oneOf [1] [[2]], optT := .width 2 }
    messageTyped p (newMessage 0x01 0x90 (some [2]) [0, 7]) = true ∧ messageTyped p (newMessage 0x01 0x90 none [7]) = false ∧
    messageTyped p (newMessage 0x01 0x90 (some [3]) [0, 7]) = false ∧ (State.resetWith p).cur.opt = [0, 0] := by decide

/-- R101: state nibble, then event code. -/
theorem test_decode_xt12_xmt : decodes .xt12
    [([0, 0x20], .xmtIdleStart), ([1, 0x22], .xmtWaitXmtDoneManxmtdone), ([1, 0x24], .xmtWaitXmtDoneManrcveror),
     ([1, 0x21], .xmtWaitXmtDoneTimeout), ([2, 0x23], .xmtWaitXmtEchoManrcvdone),
     ([2, 0x24], .xmtWaitXmtEchoManrcveror), ([2, 0x21], .xmtWaitXmtEchoTimeout),
     ([3, 0x25], .xmtWaitRcvDoneEdgeseen), ([3, 0x23], .xmtWaitRcvDoneManrcvdone),
     ([3, 0x24], .xmtWaitRcvDoneManrcveror), ([3, 0x21], .xmtWaitRcvDoneTimeout),
     ([4, 0x21], .xmtWaitFrameTimeTimeout), ([5, 0x21], .xmtWaitBackFrameTimeTimeout),
     ([1, 0x23], .xmtDefault .waitXmtDone .manrcvdone), ([0, 0x21], .xmtDefault .idle .timeout)] = true := by decide

theorem test_decode_xt12_ctl : decodes .xt12
    [([0, 0x10], .ctlIdleMsgenq), ([1, 0x10], .ctlWaitMsgenq), ([1, 0x11], .ctlWaitXactdone),
     ([0, 0x11], .ctlDefault .idle .xactdone)] = true := by decide

/-- R98, R109: the special rows of `ClassifyAnswer`, and raw levels. -/
theorem test_decode_answer_special : decodes .answer
    [([0xFE, 0xFE], .ansLevel 0xFE 0xFE), ([0xA9, 0x00], .ansSpcMaybeCompare),
     ([0xC7, 0x55], .ansSpcMaybeWriteMemoryLocation 0x55), ([0xBB, 0x00], .ansSpcRequiredQueryShortAddr),
     ([0xB9, 0x07], .ansSpcRequiredVerifyShortAddr 0x07), ([0xA5, 0xFF], .ansSpcNoneInitialise 0xFF),
     ([0xA7, 0x01], .ansSpcNoneRandomise 0x01), ([0xAB, 0x00], .ansSpcNoneWithdraw 0x00),
     ([0xB1, 0x12], .ansSpcNoneSearchaddrh 0x12), ([0xB3, 0x34], .ansSpcNoneSearchaddrm 0x34),
     ([0xB5, 0x56], .ansSpcNoneSearchaddrl 0x56), ([0xB7, 0x03], .ansSpcNoneProgramShortAddr 0x03),
     ([0xC1, 0x06], .ansSpcNoneEnableDeviceType 0x06), ([0xA3, 0x90], .ansSpcNoneDtr 0x90),
     ([0xC3, 0x90], .ansSpcNoneDtr1 0x90), ([0xC5, 0xA0], .ansSpcNoneDtr2 0xA0)] = true := by decide

/-- R98, R109: the query rows of `ClassifyAnswer`, at the ends of their ranges, and the default row in a gap. -/
theorem test_decode_answer_query : decodes .answer
    [([0xFF, 0x90], .ansQRequiredQueryStatus 0xFF), ([0x01, 0x97], .ansQRequiredVersionMinlevel 0x01 0x97),
     ([0x01, 0x9D], .ansQRequiredContentDtr1Dtr2 0x01 0x9D), ([0x81, 0xA0], .ansQRequiredActualLevelFadeRate 0x81 0xA0),
     ([0x01, 0xC5], .ansQRequiredSceneLevelReadMemory 0x01 0xC5), ([0x7F, 0xFF], .ansQRequiredGearTypeExtVersion 0x7F 0xFF),
     ([0x01, 0x96], .ansQMaybeGearPresentMissingShort 0x01 0x96), ([0x01, 0x9B], .ansQMaybePowerFailure 0x01),
     ([0x01, 0xC6], .ansDefault 0x01 0xC6)] = true := by decide

/-- R98, R109: the rows of `ClassifyRepeat`. -/
theorem test_decode_repeat : decodes .again
    [([0xA5, 0x00], .rptInitialise 0x00), ([0xA7, 0x00], .rptRandomise),
     ([0xFF, 0x81], .rptRangeResetEnableWriteMemoryBroadcast 0x81),
     ([0x0B, 0x20], .rptRangeResetEnableWriteMemoryIndividual 0x0B 0x20),
     ([0xFF, 0xE0], .rptRangeRefsyspowerSelectDimCurveBroadcast 0xE0),
     ([0x0B, 0xE3], .rptRangeRefsyspowerSelectDimCurveIndividual 0x0B 0xE3),
     ([0x85, 0x20], .rptDefault 0x85 0x20)] = true := by decide

/-- R104. -/
theorem test_decode_st4 : decodes .st4
    [([0], .stOk), ([1], .stRcvOk), ([2], .stRcvErr), ([3], .stXmtTimeout), ([4], .stBusErr), ([5], .stEchoErr),
     ([6], .stRcvTimeout), ([7], .stBusCol), ([8], .stIllOp), ([9], .stBusMonBad)] = true := by decide

/-- R105: codes that are no operation. -/
theorem test_decode_refuses :
    decode defaultOpc .evt8 [0x26] = .error (.unknownEvent 0x26) ∧
    decode defaultOpc .evt8 [0x30, 0x02] = .error (.badOperand 0x02) ∧
    decode defaultOpc .xt12 [6, 0x21] = .error (.reservedKey 6 0x21) ∧
    decode defaultOpc .xt12 [2, 0x10] = .error (.reservedKey 2 0x10) ∧
    decode defaultOpc .st4 [10] = .error (.reservedStatus 10) ∧
    decode defaultOpc .answer [0x01] = .error .truncated := by decide

/-- The opcode table's numbering: a key word, a frame word, an event, a status. -/
theorem test_tableWord :
    decodeTableWord 16 0x223 = some .xmtWaitXmtEchoManrcvdone ∧ decodeTableWord 16 0xA9A0 = some (.ansQRequiredActualLevelFadeRate 0xA9 0xA0) ∧
    decodeTableWord 8 0x25 = some .edgeseen ∧ decodeTableWord 8 0x7 = some .stBusCol := by decide

/-! ### The bus monitor (B2) -/

/-- M1, the eighth sample: 7/F becomes 8/T. -/
theorem test_montick_trips :
    after (fun t => (t.monCnt, t.monBad)) (exec (.montick true) { State.reset with monCnt := 7 }) = some (8, true) := by
  decide

/-- M2, the ninth sample: 8/T becomes 0/F. -/
theorem test_montick_clears :
    after (fun t => (t.monCnt, t.monBad)) (exec (.montick false) { State.reset with monCnt := 8, monBad := true }) =
      some (0, false) := by decide

/-! ### XMT (B3); the events and the rows of the same pair take different vectors -/

/-- X3: a frame to be repeated. -/
theorem test_start_X3 :
    after (fun t => (t.xmtState, t.ans, t.rpt, t.trace)) (exec .start (mid .idle 0x0B 0x20 .ok .none false)) =
      some (.waitXmtDone, .none, true, [.manReceive .echo 2, .manTransmit [0x0B, 0x20] 2, .timerOn 22]) := by decide

/-- X5: a bad bus; `ans` and `rpt` stay. -/
theorem test_start_X5 :
    after (fun t => (t.cur.status, t.ans, t.rpt, t.trace))
      (exec .start { mid .idle 0x01 0x90 .ok .maybe true with monBad := true }) =
      some (.busMonBad, .maybe, true, [.postCtl .xactdone]) := by decide

/-- X6: a broadcast query. -/
theorem test_xmtIdleStart_X6 :
    after (fun t => (t.xmtState, t.cur.status, t.ans, t.trace)) (exec .xmtIdleStart (mid .idle 0xFF 0x90 .ok .none false)) =
      some (.idle, .illOp, .error, [.postCtl .xactdone]) := by decide

/-- X8: the same in debug mode. -/
theorem test_xmtIdleStart_X8 :
    after (fun t => (t.xmtState, t.cur.status, t.ans))
      (exec .xmtIdleStart { mid .idle 0xFF 0x90 .ok .none false with debugMode := true }) =
      some (.waitXmtDone, .xmtTimeout, .required) := by decide

/-- X10. -/
theorem test_manxmtdone_X10 :
    seen (exec .manxmtdone (mid .waitXmtDone 0x01 0x90 .xmtTimeout .required false)) =
      some (.waitXmtEcho, .busErr, []) := by decide

/-- X47. -/
theorem test_manxmtdone_X47 :
    seen (exec .manxmtdone (mid .waitXmtEcho 0x01 0x90 .busErr .required false)) = some (.waitXmtEcho, .busErr, []) := by
  decide

/-- X10. -/
theorem test_xmtWaitXmtDoneManxmtdone_X10 :
    seen (exec .xmtWaitXmtDoneManxmtdone (mid .waitXmtDone 0x01 0x90 .xmtTimeout .required false)) =
      some (.waitXmtEcho, .busErr, []) := by decide

/-- X12: `rpt` is not consulted. -/
theorem test_xmtWaitXmtDoneManrcveror_X12 :
    seen (exec .xmtWaitXmtDoneManrcveror (mid .waitXmtDone 0x0B 0x20 .xmtTimeout .none true)) =
      some (.idle, .busErr, [.postCtl .xactdone]) := by decide

/-- X13. -/
theorem test_xmtWaitXmtDoneTimeout_X13 :
    seen (exec .xmtWaitXmtDoneTimeout (mid .waitXmtDone 0x01 0x90 .xmtTimeout .required false)) =
      some (.idle, .xmtTimeout, [.postCtl .xactdone]) := by decide

/-- X15: `edge` is cleared. -/
theorem test_xmtWaitXmtEchoManrcvdone_X15 :
    after (fun t => (t.xmtState, t.cur.status, t.edge, t.trace))
      (exec .xmtWaitXmtEchoManrcvdone
        { mid .waitXmtEcho 0x01 0x91 .busErr .maybe false with edge := true, echo0 := 0x01, echo1 := 0x91 }) =
      some (.waitRcvDone, .rcvTimeout, false, [.timerOff, .manReceive .rspbuf 1, .timerOn 16]) := by decide

/-- R8, D38: with `FRAME_LEN` 1 only the first byte is sent and compared. -/
theorem test_frameLen_one :
    let s := { mid .waitXmtEcho 0x01 0x90 .busErr .required false with
      echo0 := 0x01, echo1 := 0x91, params := { defaultParams with frameLen := 1 } }
    echoMatches s = true ∧ (startFrame s).trace = [.manReceive .echo 1, .manTransmit [0x01] 1, .timerOn 22] := by decide

/-- X19: the second byte differs in one bit. -/
theorem test_xmtWaitXmtEchoManrcvdone_X19 :
    seen (exec .xmtWaitXmtEchoManrcvdone
        { mid .waitXmtEcho 0x01 0x90 .busErr .required false with echo0 := 0x01, echo1 := 0x91 }) =
      some (.idle, .echoErr, [.timerOff, .postCtl .xactdone]) := by decide

/-- X16: no answer expected. -/
theorem test_manrcvdone_X16 :
    seen (exec .manrcvdone { mid .waitXmtEcho 0xFF 0x00 .busErr .none false with echo0 := 0xFF, echo1 := 0x00 }) =
      some (.waitFrameTime, .ok, [.timerOff, .timerOn 12]) := by decide

/-- X44: an echo before transmit-done is lost. -/
theorem test_manrcvdone_X44 :
    seen (exec .manrcvdone { mid .waitXmtDone 0x01 0x90 .xmtTimeout .required false with echo0 := 0x01, echo1 := 0x90 }) =
      some (.waitXmtDone, .xmtTimeout, []) := by decide

/-- X21. -/
theorem test_xmtWaitXmtEchoManrcveror_X21 :
    seen (exec .xmtWaitXmtEchoManrcveror (mid .waitXmtEcho 0x01 0x90 .busErr .required false)) =
      some (.idle, .busErr, [.postCtl .xactdone]) := by decide

/-- X22. -/
theorem test_xmtWaitXmtEchoTimeout_X22 :
    seen (exec .xmtWaitXmtEchoTimeout (mid .waitXmtEcho 0x01 0x90 .busErr .required false)) =
      some (.idle, .busErr, [.postCtl .xactdone]) := by decide

/-- X23. -/
theorem test_xmtWaitRcvDoneEdgeseen_X23 :
    after (fun t => (t.edge, t.cur.status)) (exec .xmtWaitRcvDoneEdgeseen (mid .waitRcvDone 0x01 0x90 .rcvTimeout .required false)) =
      some (true, .rcvTimeout) := by decide

/-- X48: the latch is not set outside WaitRcvDone. -/
theorem test_edgeseen_X48 :
    after (fun t => t.edge) (exec .edgeseen (mid .waitXmtEcho 0x01 0x90 .busErr .required false)) = some false := by decide

/-- X25. -/
theorem test_xmtWaitRcvDoneManrcvdone_X25 :
    after (fun t => (t.xmtState, t.cur.status, t.cur.rsp, t.trace))
      (exec .xmtWaitRcvDoneManrcvdone { mid .waitRcvDone 0x01 0x90 .rcvTimeout .required false with rspbuf0 := 0x04 }) =
      some (.waitBackFrameTime, .rcvOk, 0x04, [.timerOff, .timerOn 9]) := by decide

/-- X28: an edge was seen. -/
theorem test_xmtWaitRcvDoneManrcveror_X28 :
    seen (exec .xmtWaitRcvDoneManrcveror { mid .waitRcvDone 0x01 0x90 .rcvTimeout .required false with edge := true }) =
      some (.waitFrameTime, .busCol, [.timerOn 12]) := by decide

/-- X30: `rpt` is cleared. -/
theorem test_manrcveror_X30 :
    after (fun t => (t.xmtState, t.cur.status, t.rpt)) (exec .manrcveror (mid .waitRcvDone 0x01 0x90 .rcvTimeout .maybe true)) =
      some (.waitFrameTime, .rcvTimeout, false) := by decide

/-- X52. -/
theorem test_manrcveror_X52 :
    seen (exec .manrcveror (mid .waitBackFrameTime 0x01 0x90 .rcvOk .required false)) =
      some (.waitBackFrameTime, .rcvOk, []) := by decide

/-- X31: an answer was required. -/
theorem test_xmtWaitRcvDoneTimeout_X31 :
    seen (exec .xmtWaitRcvDoneTimeout (mid .waitRcvDone 0x01 0x90 .rcvTimeout .required false)) =
      some (.idle, .rcvTimeout, [.manAbortReceive, .postCtl .xactdone]) := by decide

/-- X32: an answer was possible. -/
theorem test_timeout_X32 :
    seen (exec .timeout (mid .waitRcvDone 0x01 0x90 .rcvTimeout .maybe false)) =
      some (.idle, .ok, [.manAbortReceive, .postCtl .xactdone]) := by decide

/-- X39. -/
theorem test_timeout_X39 :
    seen (exec .timeout (mid .idle 0x01 0x90 .busErr .none false)) = some (.idle, .busErr, []) := by decide

/-- X34: no repeat. -/
theorem test_xmtWaitFrameTimeTimeout_X34 :
    seen (exec .xmtWaitFrameTimeTimeout (mid .waitFrameTime 0xFF 0x00 .ok .none false)) =
      some (.idle, .ok, [.postCtl .xactdone]) := by decide

/-- X35: the second transmission. -/
theorem test_xmtWaitFrameTimeTimeout_X35 :
    after (fun t => (t.xmtState, t.cur.status, t.rpt, t.trace))
      (exec .xmtWaitFrameTimeTimeout (mid .waitFrameTime 0x0B 0x20 .ok .none true)) =
      some (.waitXmtDone, .xmtTimeout, false, [.manReceive .echo 2, .manTransmit [0x0B, 0x20] 2, .timerOn 22]) := by decide

/-- X38: `rpt` is not consulted. -/
theorem test_xmtWaitBackFrameTimeTimeout_X38 :
    seen (exec .xmtWaitBackFrameTimeTimeout (mid .waitBackFrameTime 0x01 0x90 .rcvOk .required true)) =
      some (.idle, .rcvOk, [.postCtl .xactdone]) := by decide

/-- X45. -/
theorem test_xmtDefault_X45 :
    seen (exec (.xmtDefault .waitXmtDone .edgeseen) (mid .waitXmtDone 0x01 0x90 .xmtTimeout .required false)) =
      some (.waitXmtDone, .xmtTimeout, []) := by decide

/-! ### CTL and the host calls (B4, B5) -/

/-- K1. -/
theorem test_transmitmessage_K1 :
    after (fun t => (t.returned, t.q, t.ctlq)) (exec (.transmitmessage 0x01 0x90 none []) State.reset) =
      some (.accepted true, [msg 0x01 0x90], [.msgenq]) := by decide

/-- K2: a queue of one that holds one. -/
theorem test_transmitmessage_K2 :
    after (fun t => (t.returned, t.q, t.ctlq))
      (exec (.transmitmessage 0x03 0x90 none [])
        { State.reset with q := [msg 0x01 0x90], params := { defaultParams with qdepth := 1 } }) =
      some (.accepted false, [msg 0x01 0x90], []) := by decide

/-- K4. -/
theorem test_ctlIdleMsgenq_K4 :
    after (fun t => (t.ctlState, t.cur.rsp, t.q, t.xmtq))
      (exec .ctlIdleMsgenq { State.reset with q := [{ msg 0x01 0x90 with rsp := 0x55 }, msg 0x03 0x90] }) =
      some (.wait, 0x00, [msg 0x03 0x90], [.start]) := by decide

/-- K5: nothing waits. -/
theorem test_msgenq_K5 : after (fun t => (t.ctlState, t.trace)) (exec .msgenq State.reset) = some (.idle, []) := by decide

/-- K6. -/
theorem test_ctlWaitMsgenq_K6 :
    after (fun t => (t.ctlState, t.q, t.trace))
      (exec .ctlWaitMsgenq { mid .waitXmtDone 0x01 0x90 .xmtTimeout .required false with q := [msg 0x03 0x90] }) =
      some (.wait, [msg 0x03 0x90], []) := by decide

/-- K7: `drop`. -/
theorem test_xactdone_K7 :
    after (fun t => (t.ctlState, t.delivered, t.ctlq))
      (exec .xactdone { mid .idle 0x01 0x90 .ok .required false with q := [msg 0x03 0x90] }) =
      some (.idle, [msg 0x01 0x90], []) := by decide

/-- K8: `defer`. -/
theorem test_ctlWaitXactdone_K8 :
    after (fun t => (t.ctlState, t.delivered, t.ctlq))
      (exec .ctlWaitXactdone { mid .idle 0x01 0x90 .ok .required false with
        q := [msg 0x03 0x90], params := { defaultParams with ctlBusyEnq := .defer } }) =
      some (.idle, [msg 0x01 0x90], [.msgenq]) := by decide

/-- K10. -/
theorem test_ctlDefault_K10 :
    after (fun t => (t.ctlState, t.trace)) (exec (.ctlDefault .idle .xactdone) State.reset) = some (.idle, []) := by decide

/-- `DESC 7`. -/
theorem test_getstatusdesc_7 :
    after (fun t => t.returned) (exec (.getstatusdesc 7) State.reset) = some (.text "BUSCOL") := by decide

/-- `DESC 10`. -/
theorem test_getstatusdesc_10 :
    after (fun t => t.returned) (exec (.getstatusdesc 10) State.reset) = some (.text "UNKNOWN") := by decide

/-! ### Classifier rows (B1) and status rows (B5) -/

/-- What each listed operation returns, in debug mode or not. -/
def returns (dbg : Bool) (rows : List (Instr × Returned)) : Bool :=
  rows.all fun row => decide (after (fun t => t.returned) (exec row.1 { State.reset with debugMode := dbg }) = some row.2)

theorem test_answer_special : returns false
    [(.ansLevel 0xFE 0xFE, .answer .none), (.ansSpcMaybeCompare, .answer .maybe),
     (.ansSpcMaybeWriteMemoryLocation 0x55, .answer .maybe), (.ansSpcRequiredQueryShortAddr, .answer .required),
     (.ansSpcRequiredVerifyShortAddr 0x07, .answer .required), (.ansSpcNoneInitialise 0xFF, .answer .none),
     (.ansSpcNoneRandomise 0x01, .answer .none), (.ansSpcNoneWithdraw 0x00, .answer .none),
     (.ansSpcNoneSearchaddrh 0x12, .answer .none), (.ansSpcNoneSearchaddrm 0x34, .answer .none),
     (.ansSpcNoneSearchaddrl 0x56, .answer .none), (.ansSpcNoneProgramShortAddr 0x03, .answer .none),
     (.ansSpcNoneEnableDeviceType 0x06, .answer .none), (.ansSpcNoneDtr 0x90, .answer .none),
     (.ansSpcNoneDtr1 0x90, .answer .none), (.ansSpcNoneDtr2 0xA0, .answer .none)] = true := by decide

theorem test_answer_query : returns false
    [(.ansQRequiredQueryStatus 0xFF, .answer .error), (.ansQRequiredVersionMinlevel 0x01 0x97, .answer .required),
     (.ansQRequiredContentDtr1Dtr2 0x01 0x9D, .answer .required),
     (.ansQRequiredActualLevelFadeRate 0x81 0xA0, .answer .error),
     (.ansQRequiredSceneLevelReadMemory 0x01 0xC5, .answer .required),
     (.ansQRequiredGearTypeExtVersion 0x7F 0xFF, .answer .required),
     (.ansQMaybeGearPresentMissingShort 0x01 0x96, .answer .maybe), (.ansQMaybePowerFailure 0xFF, .answer .error),
     (.ansDefault 0x01 0xC6, .answer .none)] = true := by decide

theorem test_answer_query_debug : returns true
    [(.ansQRequiredQueryStatus 0xFF, .answer .required), (.ansQMaybePowerFailure 0xFF, .answer .maybe)] = true := by decide

theorem test_repeat : returns false
    [(.rptInitialise 0xFF, .again true), (.rptRandomise, .again true),
     (.rptRangeResetEnableWriteMemoryBroadcast 0x81, .again true),
     (.rptRangeResetEnableWriteMemoryIndividual 0x0B 0x20, .again true),
     (.rptRangeRefsyspowerSelectDimCurveBroadcast 0xE0, .again true),
     (.rptRangeRefsyspowerSelectDimCurveIndividual 0x0B 0xE3, .again true),
     (.rptDefault 0xA7 0x01, .again false), (.rptDefault 0x85 0x20, .again false),
     (.rptDefault 0xFE 0x20, .again false)] = true := by decide

theorem test_status : returns false
    [(.stOk, .text "XMTOK"), (.stRcvOk, .text "XMTOKRCVOK"), (.stRcvErr, .text "XMTOKRCVERR"),
     (.stXmtTimeout, .text "XMTTIMEOUT"), (.stBusErr, .text "BUSERR"), (.stEchoErr, .text "ECHOERR"),
     (.stRcvTimeout, .text "RCVTIMEOUT"), (.stBusCol, .text "BUSCOL"), (.stIllOp, .text "ILLOP"),
     (.stBusMonBad, .text "BUSMONBAD")] = true := by decide

/-! ### Address forms (R91): one address of each form -/

theorem test_addrForm :
    addrForm 0x7F = .short 63 ∧ addrForm 0x81 = .group 0 ∧ addrForm 0x9E = .group 15 ∧ addrForm 0xFE = .broadcast ∧
    addrForm 0xA5 = .special 2 ∧ addrForm 0xC1 = .special 0 ∧ addrForm 0xE0 = .reserved := by decide

/-! ### Witnesses: for every statement with hypotheses a concrete case that meets them, clause by clause -/

/-- `DecodeInvertsEncode`: one operation of each format. -/
theorem witness_DecodeInvertsEncode :
    wellFormed defaultOpc (.transmitmessage 0xFF 0x00 (some [1]) [2]) = true ∧ wellFormed defaultOpc (.ctlDefault .idle .xactdone) = true ∧
    wellFormed defaultOpc (.ansDefault 0xFF 0x00) = true ∧ wellFormed defaultOpc (.rptDefault 0x85 0x20) = true ∧
    wellFormed defaultOpc .stOk = true := by decide

theorem witness_DecodedIsCanonical : decode defaultOpc .answer [0xFF, 0x90, 0x55] = .ok (.ansQRequiredQueryStatus 0xFF) [0x55] := by
  decide

/-- `ReservedCodesRefused`: the codes beside the listed ones, the first code of each reserved range, and the last. -/
theorem witness_ReservedCodesRefused :
    (∀ c ∈ [0x00#8, 0x0F#8, 0x12#8, 0x1F#8, 0x26#8, 0x2F#8, 0x31#8, 0x3F#8, 0x42#8, 0xFF#8],
      c ∉ [0x10#8, 0x11#8, 0x20#8, 0x21#8, 0x22#8, 0x23#8, 0x24#8, 0x25#8, 0x30#8, 0x40#8, 0x41#8]) ∧
    (0x0F#8 ∉ [0x10#8, 0x11#8, 0x20#8, 0x21#8, 0x22#8, 0x23#8, 0x24#8, 0x25#8] ∧
      0x26#8 ∉ [0x10#8, 0x11#8, 0x20#8, 0x21#8, 0x22#8, 0x23#8, 0x24#8, 0x25#8]) ∧
    (0x11#8 ∈ [0x10#8, 0x11#8] ∧ 2 ≤ (2#8).toNat) ∧ 6 ≤ (6#8).toNat ∧ 6 ≤ (255#8).toNat ∧
    10 ≤ (10#8).toNat ∧ 2 ≤ (2#8).toNat ∧ 2 ≤ (255#8).toNat ∧
    4 < (encode defaultOpc (.transmitmessage 0x01 0x90 none [])).length ∧ 0 < (encode defaultOpc .stOk).length := by decide

/-- `ClassifyAnswerByRules`: with the default constants a frame for each clause, in order. -/
theorem witness_ClassifyAnswerByRules :
    let o := defaultOpc
    ¬(0x00#8).getLsbD 0 = true ∧
    ((0xA9#8).getLsbD 0 = true ∧ (0xA9#8 = o.spcCompare ∧ 0x00#8 = 0)) ∧
    ((0xB9#8).getLsbD 0 = true ∧ 0xB9#8 ≠ o.spcCompare ∧ 0xB9#8 ≠ o.spcWriteMemoryLocation ∧ 0xB9#8 = o.spcVerifyShortAddr) ∧
    ((0xA3#8).getLsbD 0 = true ∧ spcMaybe o 0xA3 0x90 = false ∧ spcRequired o 0xA3 0x90 = false ∧ 0xA3#8 = o.spcDtr) ∧
    ((0x01#8).getLsbD 0 = true ∧ spcMaybe o 0x01 0x90 = false ∧ spcRequired o 0x01 0x90 = false ∧ spcNone o 0x01 = false ∧
      0x90#8 = o.cmdQueryStatus ∧ (0x01#8).getLsbD 7 = false ∧ (0xFF#8).getLsbD 7 = true) ∧
    (spcMaybe o 0xFF 0x96 = false ∧ spcRequired o 0xFF 0x96 = false ∧ spcNone o 0xFF = false ∧ qRequired o 0x96 = false ∧
      0x96#8 ≤ o.cmdQueryMissingShortAddr) ∧
    (spcMaybe o 0xA9 0x01 = false ∧ spcRequired o 0xA9 0x01 = false ∧ spcNone o 0xA9 = false ∧ qRequired o 0x01 = false ∧
      qMaybe o 0x01 = false) := by decide

/-- `RefusalsByAddress`: the ends of the group range, broadcast, and the last individual address. -/
theorem witness_RefusalsByAddress :
    (0x7F#8).getLsbD 7 = false ∧
    (0x81#8 ≤ 0x81#8 ∧ 0x81#8 ≤ 0x9F#8 ∧ (0x81#8).getLsbD 0 = true) ∧
    (0x81#8 ≤ 0x9F#8 ∧ 0x9F#8 ≤ 0x9F#8 ∧ (0x9F#8).getLsbD 0 = true) ∧
    qRequired defaultOpc 0x90 = true ∧ qRequired defaultOpc 0xFF = true := by decide

theorem witness_RepeatedFrameExpectsNoAnswer :
    classifyRepeat defaultOpc 0xA5 0xFF = true ∧ classifyRepeat defaultOpc 0xA7 0x00 = true ∧
    classifyRepeat defaultOpc 0xFF 0x81 = true ∧ classifyRepeat defaultOpc 0x7F 0xE3 = true := by decide

theorem witness_DebugModeOnlyLiftsRefusals :
    classifyAnswer defaultOpc 0x01 0x90 false ≠ .error ∧ classifyAnswer defaultOpc 0xFF 0x90 false = .error ∧
    classifyAnswer defaultOpc 0xFF 0x9B false = .error := by decide

theorem witness_QueryAccessCheck :
    (isCmd 0xFF = true ∧ spcMaybe defaultOpc 0xFF 0x90 = false ∧ spcRequired defaultOpc 0xFF 0x90 = false ∧
      spcNone defaultOpc 0xFF = false ∧ qRequired defaultOpc 0x90 = true) ∧
    (isCmd 0x01 = true ∧ spcMaybe defaultOpc 0x01 0x9B = false ∧ spcRequired defaultOpc 0x01 0x9B = false ∧
      spcNone defaultOpc 0x01 = false ∧ qMaybe defaultOpc 0x9B = true) := by decide

/-- `ClassifierRowsReturnTheirResult`: a well-formed operation for each of the 25 rows of `ClassifyAnswer`. -/
theorem witness_ClassifierRows_answer :
    [Instr.ansLevel 0xFE 0xFE, .ansSpcMaybeCompare, .ansSpcMaybeWriteMemoryLocation 0x55, .ansSpcRequiredQueryShortAddr,
     .ansSpcRequiredVerifyShortAddr 0x07, .ansSpcNoneInitialise 0xFF, .ansSpcNoneRandomise 0x01,
     .ansSpcNoneWithdraw 0x00, .ansSpcNoneSearchaddrh 0x12, .ansSpcNoneSearchaddrm 0x34, .ansSpcNoneSearchaddrl 0x56,
     .ansSpcNoneProgramShortAddr 0x03, .ansSpcNoneEnableDeviceType 0x06, .ansSpcNoneDtr 0x90, .ansSpcNoneDtr1 0x90,
     .ansSpcNoneDtr2 0xA0, .ansQRequiredQueryStatus 0xFF, .ansQRequiredVersionMinlevel 0x01 0x97,
     .ansQRequiredContentDtr1Dtr2 0x01 0x9D, .ansQRequiredActualLevelFadeRate 0x81 0xA0,
     .ansQRequiredSceneLevelReadMemory 0x01 0xC5, .ansQRequiredGearTypeExtVersion 0x7F 0xFF,
     .ansQMaybeGearPresentMissingShort 0x01 0x96, .ansQMaybePowerFailure 0x01, .ansDefault 0x01 0xC6].all
      (fun i => wellFormed defaultOpc i && (answerRowOf i).isSome) = true := by decide

/-- `ClassifierRowsReturnTheirResult`: a well-formed operation for each of the 7 rows of `ClassifyRepeat`. -/
theorem witness_ClassifierRows_repeat :
    [Instr.rptInitialise 0xFF, .rptRandomise, .rptRangeResetEnableWriteMemoryBroadcast 0x81,
     .rptRangeResetEnableWriteMemoryIndividual 0x0B 0x20, .rptRangeRefsyspowerSelectDimCurveBroadcast 0xE0,
     .rptRangeRefsyspowerSelectDimCurveIndividual 0x0B 0xE3, .rptDefault 0x85 0x20].all
      (fun i => wellFormed defaultOpc i && (repeatRowOf i).isSome) = true := by decide

/-- `MonitorTick`: counts 0 and 6, 7, 8 and 9 under a threshold of 8. -/
theorem witness_MonitorTick :
    (0#4 < defaultParams.monThreshold ∧ 0#4 + 1#4 ≠ defaultParams.monThreshold) ∧
    (6#4 < defaultParams.monThreshold ∧ 6#4 + 1#4 ≠ defaultParams.monThreshold) ∧
    (7#4 < defaultParams.monThreshold ∧ 7#4 + 1#4 = defaultParams.monThreshold) ∧
    8#4 = defaultParams.monThreshold ∧ defaultParams.monThreshold < 9#4 := by decide

/-- `MonitorInvariantKept`, `BusHealthHasOneWriter`: the eighth bad sample. -/
theorem witness_MonitorInvariantKept :
    let s := offering (tickLine true) { State.reset with monCnt := 7 }
    (s.params.wf ∧ monitorInv s) ∧
    step s = .next { s with script := [], monCnt := 8, monBad := true, trace := [.getBusState true] } ∧ 8#4 ≠ s.monCnt :=
  ⟨by decide, rfl, by decide⟩

/-- `StartInIdle`: a bad bus, a refused query, and a legal one. -/
theorem witness_StartInIdle :
    (mid .idle 0x01 0x90 .ok .none false).xmtState = .idle ∧
    { mid .idle 0x01 0x90 .ok .none false with monBad := true }.monBad = true ∧
    (mid .idle 0x01 0x90 .ok .none false).monBad = false ∧
    classifyAnswer defaultOpc 0xFF 0x90 false = .error ∧ classifyAnswer defaultOpc 0x01 0x90 false ≠ .error := by decide

theorem witness_TransmitDone : (mid .waitXmtDone 0x01 0x90 .xmtTimeout .required false).xmtState = .waitXmtDone := rfl

theorem witness_AbortsReportOnce :
    (mid .waitXmtEcho 0x01 0x90 .busErr .required false).xmtState = .waitXmtEcho ∧
    (mid .waitXmtDone 0x01 0x90 .xmtTimeout .required true).xmtState = .waitXmtDone := by decide

/-- `EchoReceived`: the same bytes with an answer expected, without one, and a byte that differs. -/
theorem witness_EchoReceived :
    let s := { mid .waitXmtEcho 0x01 0x90 .busErr .required false with echo0 := 0x01, echo1 := 0x90 }
    let n := { mid .waitXmtEcho 0xFF 0x00 .busErr .none false with echo0 := 0xFF, echo1 := 0x00 }
    let d := { mid .waitXmtEcho 0x01 0x90 .busErr .required false with echo0 := 0x01, echo1 := 0x91 }
    (s.xmtState = .waitXmtEcho ∧ memRead .echo0 s = memRead .frame0 s ∧ memRead .echo1 s = memRead .frame1 s ∧ s.ans = .required) ∧
    (n.xmtState = .waitXmtEcho ∧ memRead .echo0 n = memRead .frame0 n ∧ memRead .echo1 n = memRead .frame1 n ∧
      ¬(n.ans = .maybe ∨ n.ans = .required)) ∧
    (d.xmtState = .waitXmtEcho ∧ memRead .echo0 d = memRead .frame0 d ∧ memRead .echo1 d ≠ memRead .frame1 d) := by decide

/-- `EdgeSeen`, `AnswerReceived`, `AnswerGarbled`, `AnswerTimedOut`: a state in WaitRcvDone, with its receive armed and without,
and one elsewhere. -/
theorem witness_WaitRcvDone :
    let s := { mid .waitRcvDone 0x01 0x90 .rcvTimeout .required false with rxArmed := some (.rspbuf, 1) }
    s.xmtState = .waitRcvDone ∧ (∀ n, s.rxArmed ≠ some (.echo, n)) ∧
    (∀ n, (mid .waitRcvDone 0x01 0x90 .rcvTimeout .maybe false).rxArmed ≠ some (.rspbuf, n)) ∧
    (mid .waitXmtEcho 0x01 0x90 .busErr .required false).xmtState ≠ .waitRcvDone :=
  ⟨rfl, fun n => (by simp : some (RxBuf.rspbuf, 1) ≠ some (RxBuf.echo, n)), fun n => (by simp : (none : Option (RxBuf × Nat)) ≠ some (RxBuf.rspbuf, n)), by decide⟩

theorem witness_FrameTimeOver :
    ((mid .waitFrameTime 0x0B 0x20 .ok .none true).xmtState = .waitFrameTime ∧ (mid .waitFrameTime 0x0B 0x20 .ok .none true).rpt = true) ∧
    ((mid .waitFrameTime 0xFF 0x00 .ok .none false).xmtState = .waitFrameTime ∧
      (mid .waitFrameTime 0xFF 0x00 .ok .none false).rpt = false) := by decide

theorem witness_BackFrameTimeOver :
    (mid .waitBackFrameTime 0x01 0x90 .rcvOk .required false).xmtState = .waitBackFrameTime := rfl

/-- `UnlistedPairsIgnored`: the first and the last pair of the list. -/
theorem witness_UnlistedPairsIgnored :
    ((mid .idle 0x01 0x90 .busErr .none false).xmtState, XmtEvt.timeout) = (XmtState.idle, XmtEvt.timeout) ∧
    ((mid .waitBackFrameTime 0x01 0x90 .rcvOk .required false).xmtState, XmtEvt.edgeseen) =
      (XmtState.waitBackFrameTime, XmtEvt.edgeseen) := by decide

/-- `OperationsOutsideTheirRowRefused`: a case of each clause. -/
theorem witness_OperationsOutsideTheirRowRefused :
    XmtState.waitXmtDone ≠ State.reset.xmtState ∧ CtlState.wait ≠ State.reset.ctlState ∧
    xmtHasRow .idle .start = true ∧ ctlHasRow .wait .msgenq = true ∧
    (answerRowOf (.ansDefault 0xFF 0x90) = some .other ∧ answerRowOk defaultOpc (.ansDefault 0xFF 0x90) = false) ∧
    (repeatRowOf (.rptDefault 0xA7 0x00) = some .other ∧ repeatRowOk defaultOpc (.rptDefault 0xA7 0x00) = false) := by decide

/-- `MessageDequeued`, `CtlEventsWithoutEffect`, `TransactionDelivered`: CTL in Idle with an empty queue and with one message,
CTL in Wait under both settings. -/
theorem witness_Ctl :
    (State.reset.ctlState = .idle ∧ State.reset.q = []) ∧
    { State.reset with q := [msg 0x01 0x90] }.q = msg 0x01 0x90 :: [] ∧
    ((mid .idle 0x01 0x90 .ok .none false).ctlState = .wait ∧ State.reset.params.ctlBusyEnq = .drop) ∧
    ({ mid .idle 0x01 0x90 .ok .none false with
        q := [msg 0x03 0x90], params := { defaultParams with ctlBusyEnq := .defer } }.params.ctlBusyEnq = .defer ∧
      [msg 0x03 0x90] ≠ []) := by decide

/-- `TransmitMessageCall`: one record short of `QDEPTH`, and `QDEPTH` records. -/
theorem witness_TransmitMessageCall :
    (List.replicate 3 (msg 0x01 0x90)).length < defaultParams.qdepth ∧
    defaultParams.qdepth ≤ (List.replicate 4 (msg 0x01 0x90)).length := by decide

/-- `StatusRowsDescribe`: the last row of its list. -/
theorem witness_StatusRowsDescribe :
    (Instr.stBusMonBad, "BUSMONBAD") = (Instr.stBusMonBad, State.reset.params.strings.busMonBad) := by decide

/-- `StepRunsDecoded`: a line that decodes, and one that does not. -/
theorem witness_StepRunsDecoded :
    (offering (.op .evt8 [0x10]) State.reset).script = .op .evt8 [0x10] :: [] ∧ decode defaultOpc .evt8 [0x10] = .ok .msgenq [] ∧
    decode defaultOpc .evt8 [0x26] = .error (.unknownEvent 0x26) := by decide

theorem witness_TableWordRuns : State.reset.params.opc = defaultOpc ∧ decodeTableWord 16 0x020 = some .xmtIdleStart := by decide

/-- `DispatchTakesTheOldestEvent`, and the last clause of `PseudoOperationsExpand`: queues with two events, and empty ones. -/
theorem witness_DispatchTakesTheOldestEvent :
    let s := { offering .dispatchXmt State.reset with xmtq := [.manxmtdone, .manrcvdone], ctlq := [.msgenq] }
    (s.script = .dispatchXmt :: [] ∧ s.xmtq = .manxmtdone :: [.manrcvdone]) ∧
    ((offering .dispatchCtl s).script = .dispatchCtl :: [] ∧ s.ctlq = .msgenq :: []) ∧
    ((offering .run s).script = .run :: [] ∧ State.reset.ctlq = [] ∧ State.reset.xmtq = []) := by decide

/-- `EnvironmentLines`: an armed receive of each buffer, a transmission in progress, an armed timer; the lines of an idle
transport and timer with the contracts dropped; an echo under R280 after its frame was sent. -/
theorem witness_EnvironmentLines :
    let e := { offering (.rcvDone [0x01, 0x90]) State.reset with rxArmed := some (.echo, 2), txBusy := true, tmrArmed := true }
    let r := { offering (.rcvDone [0x04]) State.reset with rxArmed := some (.rspbuf, 1) }
    (e.script = .rcvDone [0x01, 0x90] :: [] ∧ e.rxArmed = some (.echo, 2) ∧ e.rxArmed ≠ none ∧ e.txBusy = true ∧ e.tmrArmed = true) ∧
    (r.script = .rcvDone [0x04] :: [] ∧ r.rxArmed = some (.rspbuf, 1)) ∧
    (offering .xmtDone e).script = .xmtDone :: [] ∧ (offering .rcvErr r).script = .rcvErr :: [] ∧
    (offering .expire e).script = .expire :: [] ∧ (offering .edge e).script = .edge :: [] ∧
    (offering (.debug true) e).script = .debug true :: [] ∧
    (let d := { State.reset with params := droppedContracts }
     (d.params.transmitContract = false ∧ d.params.receiveContract = false ∧ d.params.timerContract = false) ∧
     d.rxArmed = none ∧ (offering (.rcvDone [0x01]) d).script = .rcvDone [0x01] :: []) ∧
    ({ e with txBusy := false, params := { defaultParams with echoOrderContract := true } }.txBusy = false ∧
      [0x01#8, 0x90#8].length = 2) := by decide

/-- R280: the echo before the transmit's end, with the ordering in force and without (program P10). -/
theorem test_echoOrder :
    let s (order : Bool) := { offering (.rcvDone [0x01, 0x90]) (startFrame (mid .idle 0x01 0x90 .ok .none false)) with
      params := { defaultParams with echoOrderContract := order } }
    step (s true) = .refused .echoBeforeTransmitDone ∧ after (fun t => t.xmtq) (step (s false)) = some [.manrcvdone] :=
  ⟨rfl, rfl⟩

/-- U15, U18: with the contracts dropped the events of an idle transport and timer are posted. -/
theorem test_dropped_contracts :
    let d := { State.reset with params := droppedContracts, script := [.xmtDone, .rcvDone [0x01], .edge, .expire] }
    after (fun t => (t.xmtq, t.script)) (step d) = some ([.manxmtdone], [.rcvDone [0x01], .edge, .expire]) ∧
    after (fun t => t.xmtq) (step (offering .rcvErr d)) = some [.manrcveror] ∧
    after (fun t => t.xmtq) (step (offering .expire d)) = some [.timeout] := by decide

/-- `NotEnabledLinesRefused`: after reset nothing is enabled; a receive armed for two bytes is given one; an echo of two bytes
is offered while its frame is being sent, under R280; and after reset the last clause's line is refused, but allowed
with the contracts dropped. -/
theorem witness_NotEnabledLinesRefused :
    (State.reset.params.transmitContract = true ∧ State.reset.params.receiveContract = true ∧
      State.reset.txBusy = false ∧ State.reset.rxArmed = none) ∧
    (let s := { offering (.rcvDone [0x01, 0x90]) State.reset with
        rxArmed := some (.echo, 2), txBusy := true, params := { defaultParams with echoOrderContract := true } }
     s.params.echoOrderContract = true ∧ s.txBusy = true ∧ s.rxArmed = some (.echo, 2) ∧
      s.script = .rcvDone [0x01, 0x90] :: []) ∧
    (environmentAllows State.reset .xmtDone = false ∧
      environmentAllows { State.reset with params := droppedContracts } .xmtDone = true) ∧
    (State.reset.params.timerContract = true ∧ State.reset.tmrArmed = false) ∧ [0x01#8].length ≠ 2 ∧ [0x01#8, 0x90#8].length ≠ 1 := by
  decide

theorem witness_TimerWithdrawsExpiries : State.reset.params.timerContract = true ∧ droppedContracts.timerContract = false := by
  decide

/-- `InvariantsAtReset`: the default parameters, and the smallest and largest bounds. -/
theorem witness_InvariantsAtReset :
    defaultParams.wf ∧ Params.wf { defaultParams with qdepth := 1, monThreshold := 1 } ∧
    Params.wf { defaultParams with monThreshold := 15, frameLen := 1 } := by decide

/-- `MessagesAreConserved`, the second clause: a message is accepted. -/
theorem witness_MessagesAreConserved_accepted :
    let s := offering (txLine defaultParams 0x01 0x90 none none) State.reset
    after (fun t => (messageCount t, t.q, t.returned)) (step s) = some (1, [msg 0x01 0x90], .accepted true) ∧
    messageCount s = 0 ∧ s.q.length < s.params.qdepth := by decide

/-- `OneTransactionAtATime`, `PendingMessagesHaveRecords`, `QueueAndReceiveBounds`, `MessagesAreConserved`, `MessagesKeepTheirOrder`:
CTL dispatches a pending message. -/
theorem witness_ctl_step :
    let s := { offering .dispatchCtl State.reset with q := [msg 0x01 0x90], ctlq := [.msgenq] }
    (hostContract s ∧ flightInv s ∧ pendingInv s ∧ depthInv s ∧ receiveInv s) ∧
    step s = .next { s with
      script := [], ctlState := .wait, q := [], ctlq := [], xmtq := [.start], cur := msg 0x01 0x90
      trace := [.queueGet (msg 0x01 0x90), .postXmt .start] } :=
  ⟨⟨by decide, by decide, fun _ => by decide, by decide, Or.inl rfl⟩, rfl⟩

/-- `EveryWaitIsTimed`, `TransactionRankDecreases`, `NoStaleExpiry`, `LatchedFlagsInvariant`, `ReceiveErrorStatusNeverSet`,
`FrameStableInFlight`, `ClassificationIsLatched`: the gap of a frame sent once ends. -/
theorem witness_xmt_step :
    let s := { offering .dispatchXmt (mid .waitFrameTime 0xFF 0x00 .ok .none false) with xmtq := [.timeout] }
    (s.xmtState ≠ .idle ∧ timerInv s ∧ expiryInv s ∧ answerInv s ∧ statusInv s ∧ flightInv s) ∧ repeatInv s ∧
    step s = .next { s with script := [], xmtq := [], xmtState := .idle, ctlq := [.xactdone], trace := [.postCtl .xactdone] } :=
  ⟨⟨by decide, fun _ => Or.inr (by decide), fun _ => by decide, ⟨fun _ => by decide, fun h => absurd h (by decide)⟩, by decide, by decide⟩,
   fun _ _ h => absurd h (by decide), rfl⟩

/-- `TransactionRankDecreases`, the second clause: the frame of a repeat is sent again. -/
theorem witness_TransactionRankDecreases_repeat :
    let s := { offering .dispatchXmt (mid .waitFrameTime 0x0B 0x20 .ok .none true) with xmtq := [.timeout] }
    s.xmtState ≠ .idle ∧ after (fun t => (t.xmtState, t.rpt, decide (xmtRank t < xmtRank s))) (step s) = some (.waitXmtDone, false, true) := by
  decide

/-- `EdgeLatchDiscipline`: the latch is set. -/
theorem witness_EdgeLatchDiscipline :
    let s := { offering .dispatchXmt (mid .waitRcvDone 0x01 0x90 .rcvTimeout .required false) with xmtq := [.edgeseen] }
    step s = .next { s with script := [], xmtq := [], edge := true } ∧ true ≠ s.edge := ⟨rfl, by decide⟩

/-- `TransmissionsAreAccounted`: a step that transmits. -/
theorem witness_TransmissionsAreAccounted :
    let s := { offering .dispatchXmt (mid .idle 0x01 0x90 .ok .none false) with xmtq := [.start] }
    after (fun t => decide (.manTransmit [0x01, 0x90] 2 ∈ t.trace)) (step s) = some true := by decide

/-- `BuffersBelongToTheTransport`: an operation that arms the response receive and leaves the echo alone. -/
theorem witness_BuffersBelongToTheTransport :
    let s := { mid .waitXmtEcho 0x01 0x90 .busErr .required false with echo0 := 0x01, echo1 := 0x90 }
    after (fun t => decide (t.trace = [.timerOff, .manReceive .rspbuf 1, .timerOn 16])) (exec .manrcvdone s) = some true := by decide

/-- `IdleBadBusStartsNothing`: a start on a bad bus. -/
theorem witness_IdleBadBusStartsNothing :
    let s := { offering .dispatchXmt (mid .idle 0x01 0x90 .ok .none false) with xmtq := [.start], monBad := true }
    (s.monBad = true ∧ s.xmtState = .idle) ∧
    step s = .next { s with
      script := [], xmtq := [], cur := { s.cur with status := .busMonBad }, ctlq := [.xactdone], trace := [.postCtl .xactdone] } :=
  ⟨by decide, rfl⟩

/-- `PseudoOperationsExpand`: a script for each pseudo-operation, with counts 0 and 8. -/
theorem witness_PseudoOperationsExpand :
    (offering .echoOk State.reset).script = .echoOk :: [] ∧ (offering (.echoBad 1 2) State.reset).script = .echoBad 1 2 :: [] ∧
    (offering (.respond 4) State.reset).script = .respond 4 :: [] ∧ (offering .waitOut State.reset).script = .waitOut :: [] ∧
    (offering (.bad 8) State.reset).script = .bad 8 :: [] ∧ (offering (.good 0) State.reset).script = .good 0 :: [] := by decide

/-- `DefaultStringsDistinct`. -/
theorem witness_DefaultStringsDistinct : statusString defaultStrings .rcvErr = statusString defaultStrings .rcvErr := rfl

/-- A run under every contract of the environment (R275 to R281) in which a wait of XMT ends: the gap's timer expires, the
expiry and the completion are dispatched, and then the monitor ticks for ever. -/
def gapRun : Nat → State
  | 0 => { mid .waitFrameTime 0xFF 0x00 .ok .none false with tmrArmed := true }
  | 1 => { mid .waitFrameTime 0xFF 0x00 .ok .none false with xmtq := [.timeout] }
  | 2 => { mid .idle 0xFF 0x00 .ok .none false with ctlq := [.xactdone], trace := [.postCtl .xactdone] }
  | n + 3 =>
    { mid .idle 0xFF 0x00 .ok .none false with
      ctlState := .idle
      delivered := [msg 0xFF 0x00]
      trace := [.postCtl .xactdone, .outputRcvMsg (msg 0xFF 0x00)] ++ List.replicate n (.getBusState false) }

def gapLines : Nat → List Line
  | 0 => [.expire]
  | 1 => [.dispatchXmt]
  | 2 => [.dispatchCtl]
  | _ + 3 => [tickLine false]

/-- `every_wait_ends` and the contracts over a run: their hypotheses hold of one run together. -/
theorem witness_run_contracts :
    isRun gapLines gapRun ∧ schedulerContract gapLines gapRun ∧ hostDuties gapLines gapRun ∧
    transmitContractKept gapLines gapRun ∧ receiveContractKept gapLines gapRun ∧ echoOrderKept gapLines gapRun ∧
    timerContractKept gapLines gapRun ∧ (∀ n, timerInv (gapRun n)) ∧ (gapRun 0).xmtState ≠ .idle := by
  have hk : ∀ allows : State → Line → Bool, allows (gapRun 0) .expire = true → allows (gapRun 1) .dispatchXmt = true →
      allows (gapRun 2) .dispatchCtl = true → (∀ s, allows s (tickLine false) = true) → keeps allows gapLines gapRun := by
    rintro allows h0 h1 h2 h3 (_ | _ | _ | n) l hl <;> cases hl
    exacts [h0, h1, h2, h3 _]
  refine ⟨?_, ⟨?_, ?_⟩, ⟨hk _ rfl rfl rfl fun _ => rfl, fun n => ⟨n + 3, [0], by omega, rfl⟩⟩,
    hk _ rfl rfl rfl fun _ => rfl, hk _ rfl rfl rfl fun _ => rfl, hk _ rfl rfl rfl fun _ => rfl,
    ⟨hk _ rfl rfl rfl fun _ => rfl, ?_⟩, ?_, by decide⟩
  · rintro (_ | _ | _ | n)
    · rfl
    · rfl
    · rfl
    · change Host.Outcome.next _ = Host.Outcome.next _
      simp [monitorTick, gapRun, List.replicate_succ', expand, monCntNext, monBadNext]
      exact ⟨rfl, rfl⟩
  · rintro (_ | _ | _ | n) h
    exacts [absurd rfl h, absurd rfl h, ⟨2, le_rfl, .inl rfl⟩, absurd rfl h]
  · rintro (_ | _ | _ | n) h
    exacts [absurd rfl h, ⟨1, le_rfl, .inr (.inl rfl)⟩, absurd rfl h, absurd rfl h]
  · rintro (_ | _ | _ | n) h
    exacts [⟨0, le_rfl, .inl rfl⟩, absurd h Bool.false_ne_true, absurd h Bool.false_ne_true, absurd h Bool.false_ne_true]
  · rintro (_ | _ | _ | n) h
    exacts [.inl rfl, .inr (by decide), absurd rfl h, absurd rfl h]

end Sys2Proof.Tests
end

section
/-! PROOFS of the statements about the state: the reset values, the timer's withdrawal of expiries, and the registers that
only the two machines or the monitor write (10_state.md). -/

namespace Sys2Proof.Machine

/-! ### Arming and disarming the timer (R40, R281) -/

/-- With the timer contract dropped nothing is withdrawn (R313). -/
theorem withdrawTimeouts_of_dropped (s : State) (h : s.params.timerContract = false) : withdrawTimeouts s = s.xmtq := by
  simp [withdrawTimeouts, h]

/-- Withdrawing with the contract in force, with the inequality as a proposition. -/
theorem withdrawTimeouts_eq_filter_ne (s : State) (h : s.params.timerContract = true) :
    withdrawTimeouts s = s.xmtq.filter (fun e => e ≠ .timeout) := by
  rw [withdrawTimeouts_of_contract s h]
  exact List.filter_congr fun e _ => by cases e <;> rfl

/-- Settles O41: both operations put `withdrawTimeouts s` into `xmtq`, which the contract decides. -/
theorem timerWithdrawsExpiries : Obligations.TimerWithdrawsExpiries := by
  intro s ms on off
  have hon : timerOn ms s = on (withdrawTimeouts s) := rfl
  have hoff : timerOff s = off (withdrawTimeouts s) := rfl
  refine ⟨fun hc => ?_, fun hc => ?_⟩
  · rw [hon, hoff, withdrawTimeouts_eq_filter_ne s hc]
    exact ⟨rfl, rfl, rfl⟩
  · rw [hon, hoff, withdrawTimeouts_of_dropped s hc]
    exact ⟨rfl, rfl, rfl⟩

/-! ### Reset (R44, R301) -/

/-- Settles O42. -/
theorem resetValues : Obligations.ResetValues :=
  ⟨rfl, rfl, rfl, rfl, rfl, rfl, rfl, rfl, rfl, rfl, rfl, rfl, rfl, rfl⟩

/-- The monitor starts below its threshold, which is not zero, with the flag clear. -/
theorem monitorInv_resetWith (p : Params) (hp : p.wf) : monitorInv (State.resetWith p) := by
  have hne : 0#4 ≠ p.monThreshold := hp.2.symm
  exact ⟨BitVec.le_def.mpr (Nat.zero_le _), by simp [State.resetWith, hne]⟩

/-- After reset no message is there but the blank one, whose status is `ST_OK`. -/
theorem statusInv_resetWith (p : Params) : statusInv (State.resetWith p) := by
  simp [statusInv, State.resetWith, blankMessage]

/-- Settles O43: the monitor's invariant needs the threshold to be positive; the others hold because both machines are Idle,
no receive is armed and the queues and the script are empty. -/
theorem invariantsAtReset : Obligations.InvariantsAtReset := by
  intro p hp
  have hhost : hostContract (State.resetWith p) := fun _ hl => nomatch hl
  have htimer : timerInv (State.resetWith p) := fun hx => absurd rfl hx
  have hanswer : answerInv (State.resetWith p) := ⟨fun hx => absurd rfl hx, fun hx => nomatch hx⟩
  have hrepeat : repeatInv (State.resetWith p) := fun _ hx => absurd rfl hx
  exact ⟨monitorInv_resetWith p hp, hhost, rfl, fun _ => le_rfl, Nat.zero_le _, htimer, fun _ => Nat.zero_le _, hanswer,
    hrepeat, statusInv_resetWith p, .inl rfl⟩

/-! ### BusHealth and the parameters (R33, R43) -/

/-- The monitor's registers and the parameters are as they were. -/
structure KeepsBusHealth (s t : State) : Prop where
  params : t.params = s.params
  monCnt : t.monCnt = s.monCnt
  monBad : t.monBad = s.monBad

theorem XmtStep.keepsBusHealth {s t : State} {e : XmtEvt} (h : XmtStep s e t) : KeepsBusHealth s t := by
  cases h <;> constructor <;> simp

theorem CtlStep.keepsBusHealth {s t : State} {e : CtlEvt} (h : CtlStep s e t) : KeepsBusHealth s t := by
  cases h <;> constructor <;> simp

/-- A step runs the monitor's tick or keeps BusHealth. -/
theorem step_tick_or_keepsBusHealth {s t : State} (h : step s = .next t) :
    (∃ bytes rest sample, s.script = .op .evt8 (0x30#8 :: bytes) :: rest ∧
        t = monitorTick sample { s with script := rest }) ∨
      KeepsBusHealth s t := by
  cases step_cases s t h with
  | tick bytes ls sample hs => exact .inl ⟨bytes, ls, sample, hs, rfl⟩
  | xmt _ _ _ _ _ _ h | xmtOp _ _ _ _ _ _ h | ctl _ _ _ _ _ _ h | ctlOp _ _ _ _ _ _ h =>
    obtain ⟨hp, hc, hb⟩ := h.keepsBusHealth
    exact .inr ⟨hp, hc, hb⟩
  | _ => exact .inr (by constructor <;> simp)

/-- Settles O14. -/
theorem busHealthHasOneWriter : Obligations.BusHealthHasOneWriter := by
  intro s t h
  rcases step_tick_or_keepsBusHealth h with ⟨bytes, rest, sample, hs, rfl⟩ | ⟨hp, hc, hb⟩
  · exact ⟨rfl, fun _ => ⟨bytes, rest, hs, rfl, rfl⟩⟩
  · exact ⟨hp, fun hne => absurd hne (by simp [hc, hb])⟩

/-! ### The registers of the two machines: only their events write them (R24, R28 to R30) -/

/-- The state of XMT and its latches are as they were (R22, R28 to R30). -/
structure KeepsXmt (s t : State) : Prop where
  xmtState : t.xmtState = s.xmtState
  ans : t.ans = s.ans
  rpt : t.rpt = s.rpt
  edge : t.edge = s.edge

theorem CtlStep.keepsXmt {s t : State} {e : CtlEvt} (h : CtlStep s e t) : KeepsXmt s t := by
  cases h <;> constructor <;> simp

/-- A step runs one event of XMT, or one of CTL, or touches neither XMT nor the current message. -/
theorem step_event_or_keeps {s t : State} (h : step s = .next t) :
    (∃ ls later e, XmtStep { s with script := ls, xmtq := later } e t) ∨
      (∃ ls later e, CtlStep { s with script := ls, ctlq := later } e t) ∨ (KeepsXmt s t ∧ t.cur = s.cur) := by
  cases step_cases s t h with
  | xmt ls _ e later _ _ h => exact .inl ⟨ls, later, e, h⟩
  | xmtOp _ ls _ _ e _ h => exact .inl ⟨ls, s.xmtq, e, h⟩
  | ctl ls _ e later _ _ h => exact .inr (.inl ⟨ls, later, e, h⟩)
  | ctlOp _ ls _ _ e _ h => exact .inr (.inl ⟨ls, s.ctlq, e, h⟩)
  | _ => exact .inr (.inr ⟨by constructor <;> simp, by simp⟩)

/-- A step that runs no event of XMT leaves its registers alone. -/
theorem step_xmtEvent_or_keepsXmt {s t : State} (h : step s = .next t) :
    (∃ ls later e, XmtStep { s with script := ls, xmtq := later } e t) ∨ KeepsXmt s t := by
  rcases step_event_or_keeps h with hx | ⟨_, _, _, hc⟩ | ⟨hk, _⟩
  · exact .inl hx
  · obtain ⟨hx, ha, hr, he⟩ := hc.keepsXmt
    exact .inr ⟨hx, ha, hr, he⟩
  · exact .inr hk

/-- Outside Idle no event of XMT classifies the frame again; a garbled answer (R191) and the second transmission (R194) clear
`rpt`. -/
theorem XmtStep.ans_rpt_of_busy {s t : State} {e : XmtEvt} (h : XmtStep s e t) (hx : s.xmtState ≠ .idle) :
    t.ans = s.ans ∧ (t.rpt = s.rpt ∨ t.rpt = false) := by
  cases h with
  | startBad hs | startIllegal hs | startFrame hs => exact absurd hs hx
  | answerError | frameAgain => exact ⟨by simp, .inr (by simp)⟩
  | _ => exact ⟨by simp, .inl (by simp)⟩

/-- Settles O56. -/
theorem classificationIsLatched : Obligations.ClassificationIsLatched := by
  intro s t hx h
  rcases step_xmtEvent_or_keepsXmt h with ⟨_, _, _, hs⟩ | hk
  · exact hs.ans_rpt_of_busy hx
  · exact ⟨hk.ans, .inl hk.rpt⟩

/-- The edge latch is set by `EDGESEEN` in WaitRcvDone (R189) and cleared by the entry action of that state (R188), after an
echo in WaitXmtEcho. -/
theorem XmtStep.edge {s t : State} {e : XmtEvt} (h : XmtStep s e t) :
    t.edge = s.edge ∨ (t.edge = true ∧ s.xmtState = .waitRcvDone ∧ t.xmtState = .waitRcvDone) ∨
      (t.edge = false ∧ s.xmtState = .waitXmtEcho ∧ t.xmtState = .waitRcvDone) := by
  cases h with
  | edgeSeen hs => exact .inr (.inl ⟨rfl, hs, hs⟩)
  | echoAnswer hs => exact .inr (.inr ⟨by simp, hs, by simp⟩)
  | _ => exact .inl (by simp)

/-- Settles O57. -/
theorem edgeLatchDiscipline : Obligations.EdgeLatchDiscipline := by
  intro s t h hne
  rcases step_xmtEvent_or_keepsXmt h with ⟨_, _, _, hs⟩ | hk
  · exact hs.edge.resolve_left hne
  · exact absurd hk.edge hne

/-! ### The frame in flight (R24, R66, R233) -/

/-- Address, data, callback and option of the current message are as they were. -/
structure KeepsFrame (s t : State) : Prop where
  addr : t.cur.addr = s.cur.addr
  data : t.cur.data = s.cur.data
  cb : t.cur.cb = s.cur.cb
  opt : t.cur.opt = s.cur.opt

theorem KeepsFrame.of_cur_eq {s t : State} (h : t.cur = s.cur) : KeepsFrame s t := by
  constructor <;> rw [h]

/-- XMT writes only the status and the response byte of the current message. -/
theorem XmtStep.keepsFrame {s t : State} {e : XmtEvt} (h : XmtStep s e t) : KeepsFrame s t := by
  cases h <;> constructor <;> simp

/-- CTL writes the current message only when it dequeues, in Idle (R233). -/
theorem CtlStep.cur_eq_of_wait {s t : State} {e : CtlEvt} (h : CtlStep s e t) (hw : s.ctlState = .wait) : t.cur = s.cur := by
  cases h with
  | dequeue _ _ hs => rw [hw] at hs; contradiction
  | deliver => exact complete_cur s
  | nothingQueued | busy | ignored => rfl

theorem xmtBusy_of_ne_idle {x : XmtState} (h : x ≠ .idle) : xmtBusy x = 1 := by
  cases x
  case idle => contradiction
  all_goals rfl

/-- While XMT is busy its transaction is the one that CTL waits for (R239). -/
theorem ctlState_eq_wait_of_flightInv {s : State} (hf : flightInv s) (hx : s.xmtState ≠ .idle) : s.ctlState = .wait := by
  have hpos : 0 < ctlBusy s.ctlState := by
    rw [← hf, inFlight, xmtBusy_of_ne_idle hx]; omega
  cases hc : s.ctlState with
  | idle => rw [hc] at hpos; contradiction
  | wait => rfl

/-- With CTL waiting no step changes the frame. -/
theorem step_keepsFrame_of_wait {s t : State} (h : step s = .next t) (hw : s.ctlState = .wait) : KeepsFrame s t := by
  rcases step_event_or_keeps h with ⟨_, _, _, hs⟩ | ⟨_, _, _, hs⟩ | ⟨_, hcur⟩
  · obtain ⟨ha, hd, hcb, ho⟩ := hs.keepsFrame
    exact ⟨ha, hd, hcb, ho⟩
  · exact .of_cur_eq (hs.cur_eq_of_wait hw)
  · exact .of_cur_eq hcur

/-- Settles O55: while XMT is busy CTL waits, so it dequeues nothing, and nothing else writes these fields. -/
theorem frameStableInFlight : Obligations.FrameStableInFlight := by
  intro s t hf hx h
  obtain ⟨ha, hd, hcb, ho⟩ := step_keepsFrame_of_wait h (ctlState_eq_wait_of_flightInv hf hx)
  exact ⟨ha, hd, hcb, ho, ha, hd⟩

/-! ### Bounds of the Message Queue and of the armed receive (R38, R64) -/

/-- CTL only takes from `q` (R233). -/
theorem CtlStep.q_length_le {s t : State} {e : CtlEvt} (h : CtlStep s e t) : t.q.length ≤ s.q.length := by
  cases h with
  | dequeue m rest _ hq => simp [hq]
  | deliver => simp
  | nothingQueued | busy | ignored => exact le_rfl

/-- Every step keeps `q` within `QDEPTH`: only an accepted `TransmitMessage` adds to it, and it found room. -/
theorem depthInv_step {s t : State} (h : step s = .next t) (hd : depthInv s) : depthInv t := by
  cases step_cases s t h with
  | xmt _ _ _ _ _ _ h | xmtOp _ _ _ _ _ _ h =>
    obtain ⟨_, _, hq, _, hp, _⟩ := h.handles
    simpa only [depthInv, hq, hp] using hd
  | ctl _ _ _ _ _ _ h | ctlOp _ _ _ _ _ _ h =>
    have hp := h.keepsBusHealth.params
    simpa only [depthInv, hp] using h.q_length_le.trans hd
  | accepted _ _ _ m _ _ hq => simpa [depthInv] using Nat.succ_le_of_lt hq
  | _ => simpa [depthInv] using hd

/-- XMT arms a receive for the echo of a frame (R173) or for one response (R188), and aborts one (R192); otherwise it leaves
the receive alone. -/
theorem receiveInv_xmt {s t : State} {e : XmtEvt} (h : XmtStep s e t) (hr : receiveInv s) : receiveInv t := by
  cases h with
  | startFrame | frameAgain => exact .inr (.inl (by simp))
  | echoAnswer => exact .inr (.inr (by simp))
  | answerTimeout => exact .inl (by simp)
  | _ => simpa [receiveInv] using hr

/-- CTL leaves the receive alone. -/
theorem receiveInv_ctl {s t : State} {e : CtlEvt} (h : CtlStep s e t) (hr : receiveInv s) : receiveInv t := by
  cases h <;> simpa [receiveInv] using hr

/-- Every step keeps the armed lengths: outside XMT a receive is only completed or broken off. -/
theorem receiveInv_step {s t : State} (h : step s = .next t) (hr : receiveInv s) : receiveInv t := by
  cases step_cases s t h with
  | xmt _ _ _ _ _ _ h | xmtOp _ _ _ _ _ _ h => exact receiveInv_xmt h hr
  | ctl _ _ _ _ _ _ h | ctlOp _ _ _ _ _ _ h => exact receiveInv_ctl h hr
  | rcvDone | rcvErr => exact .inl (by simp)
  | _ => simpa [receiveInv] using hr

/-- Settles O49. -/
theorem queueAndReceiveBounds : Obligations.QueueAndReceiveBounds := fun _ _ hd hr h =>
  ⟨depthInv_step h hd, receiveInv_step h hr⟩

end Sys2Proof.Machine
end

section
/-! PROOFS of the statements about memory: the two event queues, the places of a message, and the buffers (R61, R66, R70, R80). -/

namespace Sys2Proof.Machine

/-! ### Dispatching an event queue (R70, R71, R302) -/

/-- With a line left, the step runs it on the rest of the script. -/
theorem step_of_script {s : State} {l : Line} {rest : List Line} (hs : s.script = l :: rest) :
    step s = runLine l { s with script := rest } := by
  rw [step, hs]

theorem dispatchCtlHead_of_cons {s : State} {e : CtlEvt} {later : List CtlEvt} (hq : s.ctlq = e :: later) :
    dispatchCtlHead s = exec (ctlEvtInstr e) { s with ctlq := later } := by
  rw [dispatchCtlHead, hq]

theorem dispatchCtlHead_of_nil {s : State} (hq : s.ctlq = []) : dispatchCtlHead s = .refused .nothingToDispatch := by
  rw [dispatchCtlHead, hq]

theorem dispatchXmtHead_of_cons {s : State} {e : XmtEvt} {later : List XmtEvt} (hq : s.xmtq = e :: later) :
    dispatchXmtHead s = exec (xmtEvtInstr e) { s with xmtq := later } := by
  rw [dispatchXmtHead, hq]

theorem dispatchXmtHead_of_nil {s : State} (hq : s.xmtq = []) : dispatchXmtHead s = .refused .nothingToDispatch := by
  rw [dispatchXmtHead, hq]

/-- Settles O37: taking the line leaves both event queues as they are. -/
theorem dispatchTakesTheOldestEvent : Obligations.DispatchTakesTheOldestEvent := by
  intro s rest
  refine ⟨fun hs => ?_, fun hs => ?_⟩ <;> rw [step_of_script hs]
  · exact ⟨fun _ _ hq => dispatchCtlHead_of_cons hq, fun hq => dispatchCtlHead_of_nil hq⟩
  · exact ⟨fun _ _ hq => dispatchXmtHead_of_cons hq, fun hq => dispatchXmtHead_of_nil hq⟩

/-! ### The places of a message (R80) -/

/-- What a step does with the messages: nothing, or it moves one from one place to the next. -/
inductive MessageMove (s t : State) : Prop
  | none (hq : t.q = s.q) (hd : t.delivered = s.delivered) (hc : t.ctlState = s.ctlState)
  /-- The host submits a message and `q` has room (R231). -/
  | submitted (bytes : List Byte) (ls : List Line) (m : BusMessage) (hs : s.script = .op .evt8 (0x40#8 :: bytes) :: ls)
      (hroom : s.q.length < s.params.qdepth) (hrsp : m.rsp = 0) (hst : m.status = .ok) (hq : t.q = s.q ++ [m])
      (hd : t.delivered = s.delivered) (hc : t.ctlState = s.ctlState) (hret : t.returned = .accepted true)
  /-- CTL takes the oldest message of `q` into service (R233). -/
  | dequeued (m : BusMessage) (hq : s.q = m :: t.q) (hcur : t.cur = { m with rsp := 0 })
      (hd : t.delivered = s.delivered) (hs : s.ctlState = .idle) (ht : t.ctlState = .wait)
  /-- CTL delivers the message in service (R235). -/
  | delivered (hq : t.q = s.q) (hd : t.delivered = s.delivered ++ [s.cur]) (hs : s.ctlState = .wait)
      (ht : t.ctlState = .idle)

/-- XMT leaves CTL's state alone. -/
theorem XmtStep.ctlState {s t : State} {e : XmtEvt} (h : XmtStep s e t) : t.ctlState = s.ctlState := by
  cases h <;> simp

/-- An event of XMT moves no message, whatever script and queue it leaves. -/
theorem XmtStep.messageMove {s t : State} {ls : List Line} {later : List XmtEvt} {e : XmtEvt}
    (h : XmtStep { s with script := ls, xmtq := later } e t) : MessageMove s t := by
  obtain ⟨_, _, hq, hd, _⟩ := h.handles
  exact .none hq hd h.ctlState

/-- An event of CTL moves at most one message, whatever script and queue it leaves. -/
theorem CtlStep.messageMove {s t : State} {ls : List Line} {later : List CtlEvt} {e : CtlEvt}
    (h : CtlStep { s with script := ls, ctlq := later } e t) : MessageMove s t := by
  cases h with
  | dequeue m rest hs hq => exact .dequeued m hq rfl rfl hs rfl
  | deliver hs => exact .delivered (by simp) (by simp) hs (by simp)
  | nothingQueued | busy | ignored => exact .none rfl rfl rfl

/-- Every step moves at most one message. -/
theorem step_messageMove {s t : State} (h : step s = .next t) : MessageMove s t := by
  cases step_cases s t h with
  | xmt _ _ _ _ _ _ h => exact h.messageMove
  | xmtOp _ _ _ _ _ _ h => exact XmtStep.messageMove (later := s.xmtq) h
  | ctl _ _ _ _ _ _ h => exact h.messageMove
  | ctlOp _ _ _ _ _ _ h => exact CtlStep.messageMove (later := s.ctlq) h
  | accepted bytes ls hs m hr hm hq => exact .submitted bytes ls m hs hq hr hm rfl rfl rfl rfl
  | _ => exact .none (by simp) (by simp) (by simp)

/-- Settles O53: a message that moves on leaves one place and enters the next; only a submission adds one. -/
theorem messagesAreConserved : Obligations.MessagesAreConserved := by
  intro s t h
  cases step_messageMove h with
  | none hq hd hc => exact .inl (by rw [messageCount, hq, hd, hc, messageCount])
  | submitted bytes ls m hs hroom hrsp hst hq hd hc hret =>
    have hcount : messageCount t = messageCount s + 1 := by
      simp only [messageCount, hq, hd, hc, List.length_append, List.length_singleton]; omega
    exact .inr ⟨hcount, bytes, ls, m, hs, hroom, hq, hrsp, hst, hret⟩
  | dequeued m hq _ hd hs ht =>
    left
    simp only [messageCount, hq, hd, hs, ht, ctlBusy, List.length_cons]
  | delivered hq hd hs ht =>
    left
    simp only [messageCount, hq, hd, hs, ht, ctlBusy, List.length_append, List.length_singleton]; omega

/-- Settles O54. -/
theorem messagesKeepTheirOrder : Obligations.MessagesKeepTheirOrder := by
  intro s t h
  cases step_messageMove h with
  | none hq hd => exact ⟨.inl hq, .inl hd⟩
  | submitted _ _ m _ _ _ _ hq hd => exact ⟨.inr (.inl ⟨m, hq⟩), .inl hd⟩
  | dequeued m hq hcur hd hs ht => exact ⟨.inr (.inr ⟨m, hq, hcur, hs, ht⟩), .inl hd⟩
  | delivered hq hd hs ht => exact ⟨.inl hq, .inr ⟨hd, hs, ht⟩⟩

/-! ### The buffers (R61, R66) -/

/-- Every byte of a receive buffer reads as before. -/
def KeepsBuffer (b : RxBuf) (s t : State) : Prop :=
  match b with
  | .echo => memRead .echo0 t = memRead .echo0 s ∧ memRead .echo1 t = memRead .echo1 s
  | .rspbuf => memRead .rspbuf0 t = memRead .rspbuf0 s

theorem keepsBuffer_echo {s t : State} (h0 : t.echo0 = s.echo0) (h1 : t.echo1 = s.echo1) : KeepsBuffer .echo s t :=
  ⟨h0, h1⟩

theorem keepsBuffer_rspbuf {s t : State} (h : t.rspbuf0 = s.rspbuf0) : KeepsBuffer .rspbuf s t := h

theorem keepsBuffer_of_bytes (b : RxBuf) {s t : State} (h0 : t.echo0 = s.echo0) (h1 : t.echo1 = s.echo1)
    (hr : t.rspbuf0 = s.rspbuf0) : KeepsBuffer b s t := by
  cases b with
  | echo => exact keepsBuffer_echo h0 h1
  | rspbuf => exact keepsBuffer_rspbuf hr

/-- How many bytes a receive into a buffer is armed for (R64). -/
def armedLen (p : Params) : RxBuf → Nat
  | .echo => p.frameLen
  | .rspbuf => p.rspLen

/-- What the actions of an operation account for: a receive buffer is kept, or a receive into it was armed, or the one armed
there was aborted; the frame is kept, or a message was dequeued. -/
structure BuffersAccounted (s t : State) (acts : List Action) : Prop where
  trace : t.trace = s.trace ++ acts
  buffer : ∀ b, KeepsBuffer b s t ∨ .manReceive b (armedLen s.params b) ∈ acts ∨
    (.manAbortReceive ∈ acts ∧ ∃ n, s.rxArmed = some (b, n))
  frame : KeepsFrame s t ∨ ∃ m, .queueGet m ∈ acts

/-- An operation that writes no byte, whatever its actions are. -/
theorem buffersAccounted_of_kept {s t : State} (htrace : s.trace <+: t.trace) (h0 : t.echo0 = s.echo0)
    (h1 : t.echo1 = s.echo1) (hr : t.rspbuf0 = s.rspbuf0) (hf : KeepsFrame s t) : ∃ acts, BuffersAccounted s t acts := by
  obtain ⟨acts, hacts⟩ := htrace
  exact ⟨acts, hacts.symm, fun b => .inl (keepsBuffer_of_bytes b h0 h1 hr), .inl hf⟩

/-- An operation that starts a frame (R173) arms the echo receive and keeps the response byte. -/
theorem buffersAccounted_of_startFrame {s t : State} (htrace : t.trace = (startFrame s).trace)
    (hr : t.rspbuf0 = s.rspbuf0) (hf : KeepsFrame s t) : ∃ acts, BuffersAccounted s t acts := by
  rw [startFrame_eq] at htrace
  refine ⟨_, htrace, fun b => ?_, .inl hf⟩
  cases b with
  | echo => exact .inr (.inl List.mem_cons_self)
  | rspbuf => exact .inl (keepsBuffer_rspbuf hr)

/-- `ManAbortReceive()` writes no buffer but the one a receive is armed into (R66, R279). -/
theorem manAbortReceive_buffer (b : RxBuf) (s : State) :
    KeepsBuffer b s (manAbortReceive s) ∨ ∃ n, s.rxArmed = some (b, n) := by
  unfold manAbortReceive
  split
  · exact .inl (keepsBuffer_of_bytes b rfl rfl rfl)
  · rename_i armed n ha
    cases armed <;> cases b
    case echo.echo | rspbuf.rspbuf => exact .inr ⟨n, ha⟩
    case echo.rspbuf => exact .inl (keepsBuffer_rspbuf rfl)
    case rspbuf.echo => exact .inl (keepsBuffer_echo rfl rfl)

/-- An event of XMT writes a buffer only when it starts a frame (R173), awaits an answer (R188) or gives up on one (R192). -/
theorem XmtStep.buffersAccounted {s t : State} {e : XmtEvt} (h : XmtStep s e t) : ∃ acts, BuffersAccounted s t acts := by
  have hf := h.keepsFrame
  cases h with
  | startFrame | frameAgain => exact buffersAccounted_of_startFrame (by simp [startFrame_eq]) (by simp) hf
  | echoAnswer =>
    refine ⟨[.timerOff, .manReceive .rspbuf s.params.rspLen, .timerOn s.params.tRcvMs], by simp [enterWaitRcvDone_eq],
      fun b => ?_, .inl hf⟩
    cases b with
    | echo => exact .inl (keepsBuffer_echo (by simp) (by simp))
    | rspbuf => exact .inr (.inl (by simp [armedLen]))
  | answerTimeout =>
    refine ⟨[.manAbortReceive, .postCtl .xactdone], by simp, fun b => ?_, .inl hf⟩
    exact (manAbortReceive_buffer b s).imp id fun hn => .inr ⟨List.mem_cons_self, hn⟩
  | _ => exact buffersAccounted_of_kept (by simp) (by simp) (by simp) (by simp) hf

/-- An event of CTL writes no receive buffer, and the frame only when it dequeues (R233). -/
theorem CtlStep.buffersAccounted {s t : State} {e : CtlEvt} (h : CtlStep s e t) : ∃ acts, BuffersAccounted s t acts := by
  obtain ⟨acts, htrace, _⟩ := h.effect.1
  cases h with
  | dequeue m rest =>
    exact ⟨[.queueGet m, .postXmt .start], rfl, fun b => .inl (keepsBuffer_of_bytes b rfl rfl rfl),
      .inr ⟨m, List.mem_cons_self⟩⟩
  | deliver =>
    exact buffersAccounted_of_kept ⟨acts, htrace.symm⟩ (by simp) (by simp) (by simp) (.of_cur_eq (by simp))
  | nothingQueued | busy | ignored => exact buffersAccounted_of_kept ⟨[], by simp⟩ rfl rfl rfl (.of_cur_eq rfl)

/-- `TransmitMessage` only adds to the trace (R231). -/
theorem transmitMessage_extends_trace (m : BusMessage) (s : State) : s.trace <+: (transmitMessage m s).trace := by
  by_cases hq : s.q.length < s.params.qdepth
  · rw [transmitMessage_of_room m s hq]; exact ⟨_, rfl⟩
  · rw [transmitMessage_of_full m s (Nat.not_lt.mp hq)]; exact ⟨_, rfl⟩

/-- Every operation of the table: outside the two machines no buffer is touched. -/
theorem OpStep.buffersAccounted {s t : State} {i : Instr} (h : OpStep s i t) : ∃ acts, BuffersAccounted s t acts := by
  cases h with
  | xmt _ _ _ h => exact h.buffersAccounted
  | ctl _ _ _ h => exact h.buffersAccounted
  | tick => exact buffersAccounted_of_kept (by simp) rfl rfl rfl (.of_cur_eq rfl)
  | submit =>
    exact buffersAccounted_of_kept (transmitMessage_extends_trace _ s) (by simp) (by simp) (by simp) (.of_cur_eq (by simp))
  | answered => exact buffersAccounted_of_kept ⟨[], by simp⟩ rfl rfl rfl (.of_cur_eq rfl)

/-- A buffer that was not armed, and whose armed receive was not aborted, is kept. -/
theorem BuffersAccounted.keepsBuffer {s t : State} {acts : List Action} (h : BuffersAccounted s t acts) (b : RxBuf)
    (harm : .manReceive b (armedLen s.params b) ∉ acts)
    (habort : .manAbortReceive ∉ acts ∨ ∀ n, s.rxArmed ≠ some (b, n)) : KeepsBuffer b s t := by
  rcases h.buffer b with hk | hm | ⟨hm, n, hn⟩
  · exact hk
  · exact absurd hm harm
  · exact habort.elim (absurd hm) fun hne => absurd hn (hne n)

/-- Settles O59: each clause is what the actions account for. -/
theorem buffersBelongToTheTransport : Obligations.BuffersBelongToTheTransport := by
  intro i s t h
  obtain ⟨acts, hacts⟩ := (exec_opStep i s t h).buffersAccounted
  refine ⟨acts, hacts.trace, hacts.keepsBuffer .echo, hacts.keepsBuffer .rspbuf, fun hget => ?_⟩
  rcases hacts.frame with hf | ⟨m, hm⟩
  · exact ⟨hf.addr, hf.data⟩
  · exact absurd hm (hget m)

end Sys2Proof.Machine
end

section
/-! PROOFS of the statements about the encodings (30_encoding.md): the encoding table as one relation, which the encoder
and the decoder each follow, and the bytes the decoder refuses. -/

namespace Sys2Proof

open Machine

/-! ### Codes (R100 to R104): each names one state or event -/

@[simp] theorem ctlEvtOf_ctlEvtCode (e : CtlEvt) : ctlEvtOf (ctlEvtCode e) = some e := by cases e <;> rfl
@[simp] theorem xmtEvtOf_xmtEvtCode (e : XmtEvt) : xmtEvtOf (xmtEvtCode e) = some e := by cases e <;> rfl
@[simp] theorem ctlStateOf_ctlStateCode (st : CtlState) : ctlStateOf (ctlStateCode st) = some st := by cases st <;> rfl
@[simp] theorem xmtStateOf_xmtStateCode (st : XmtState) : xmtStateOf (xmtStateCode st) = some st := by cases st <;> rfl

/-- The two classes of events share no code. -/
@[simp] theorem ctlEvtOf_xmtEvtCode (e : XmtEvt) : ctlEvtOf (xmtEvtCode e) = none := by cases e <;> rfl

theorem ctlEvtCode_of_ctlEvtOf {c : Byte} {e : CtlEvt} (h : ctlEvtOf c = some e) : ctlEvtCode e = c := by
  unfold ctlEvtOf at h
  split_ifs at h with hc hc <;> cases h <;> exact hc.symm

theorem xmtEvtCode_of_xmtEvtOf {c : Byte} {e : XmtEvt} (h : xmtEvtOf c = some e) : xmtEvtCode e = c := by
  unfold xmtEvtOf at h
  split_ifs at h with hc hc hc hc hc hc <;> cases h <;> exact hc.symm

theorem ctlStateCode_of_ctlStateOf {c : Byte} {st : CtlState} (h : ctlStateOf c = some st) : ctlStateCode st = c := by
  unfold ctlStateOf at h
  split_ifs at h with hc hc <;> cases h <;> exact hc.symm

theorem xmtStateCode_of_xmtStateOf {c : Byte} {st : XmtState} (h : xmtStateOf c = some st) : xmtStateCode st = c := by
  unfold xmtStateOf at h
  split_ifs at h with hc hc hc hc hc hc <;> cases h <;> exact hc.symm

/-- A status that is read is the one with that code (R104). -/
theorem statusCode_of_statusOfCode {n : Nat} {st : ResultStatus} (h : statusOfCode n = some st) :
    (statusCode st).toNat = n := by
  unfold statusOfCode at h
  split at h <;> cases h <;> rfl

/-- The byte of a status read from a byte is that byte. -/
theorem statusBytes_of_statusOfCode {c : Byte} {st : ResultStatus} (h : statusOfCode c.toNat = some st) :
    statusBytes st = [c] := by
  have hc := statusCode_of_statusOfCode h
  rw [statusBytes, List.singleton_inj]
  apply BitVec.eq_of_toNat_eq
  rw [BitVec.toNat_setWidth, hc, Nat.mod_eq_of_lt c.isLt]

/-! ### Dispatch keys (R101) -/

theorem keyInstr_ctl (st : CtlState) (e : CtlEvt) : keyInstr (ctlStateCode st) (ctlEvtCode e) = some (ctlKeyInstr st e) := by
  simp [keyInstr]

theorem keyInstr_xmt (st : XmtState) (e : XmtEvt) : keyInstr (xmtStateCode st) (xmtEvtCode e) = some (xmtKeyInstr st e) := by
  simp [keyInstr]

/-- A pair without a row of its own is named by the default row of CTL (R236). -/
theorem ctlKeyInstr_of_noRow {st : CtlState} {e : CtlEvt} (h : ctlHasRow st e = false) :
    ctlKeyInstr st e = .ctlDefault st e := by
  cases st <;> cases e <;> simp only [ctlHasRow, Bool.true_eq_false] at h
  rfl

/-- A pair without a row of its own is named by the default row of XMT (R197). -/
theorem xmtKeyInstr_of_noRow {st : XmtState} {e : XmtEvt} (h : xmtHasRow st e = false) :
    xmtKeyInstr st e = .xmtDefault st e := by
  cases st <;> cases e <;> simp only [xmtHasRow, Bool.true_eq_false] at h <;> rfl

theorem ctlKeyInstr_encoding (o : Opc) (st : CtlState) (e : CtlEvt) :
    wellFormed o (ctlKeyInstr st e) = true ∧ formatOf (ctlKeyInstr st e) = .xt12 ∧
      encode o (ctlKeyInstr st e) = [ctlStateCode st, ctlEvtCode e] := by
  cases st <;> cases e <;> exact ⟨rfl, rfl, rfl⟩

theorem xmtKeyInstr_encoding (o : Opc) (st : XmtState) (e : XmtEvt) :
    wellFormed o (xmtKeyInstr st e) = true ∧ formatOf (xmtKeyInstr st e) = .xt12 ∧
      encode o (xmtKeyInstr st e) = [xmtStateCode st, xmtEvtCode e] := by
  cases st <;> cases e <;> exact ⟨rfl, rfl, rfl⟩

/-! ### Classifier rows (R109): a row and a frame it matches determine the operation -/

theorem answerRowOf_answerInstr (r : AnsRow) (a d : Byte) : answerRowOf (answerInstr r a d) = some r := by cases r <;> rfl

theorem repeatRowOf_repeatInstr (r : RptRow) (a d : Byte) : repeatRowOf (repeatInstr r a d) = some r := by cases r <;> rfl

theorem answerInstr_frameOf (o : Opc) {i : Instr} {r : AnsRow} (hr : answerRowOf i = some r) :
    answerInstr r (frameOf o i).1 (frameOf o i).2 = i := by
  cases i <;> simp only [answerRowOf, reduceCtorEq, Option.some.injEq] at hr <;> subst hr <;> rfl

theorem repeatInstr_frameOf (o : Opc) {i : Instr} {r : RptRow} (hr : repeatRowOf i = some r) :
    repeatInstr r (frameOf o i).1 (frameOf o i).2 = i := by
  cases i <;> simp only [repeatRowOf, reduceCtorEq, Option.some.injEq] at hr <;> subst hr <;> rfl

/-- The bytes a row fixes are those of every frame it matches. -/
theorem frameOf_answerInstr {o : Opc} {r : AnsRow} {a d : Byte} (h : answerRowMatches o a d r = true) :
    frameOf o (answerInstr r a d) = (a, d) := by
  cases r <;> simp_all [answerRowMatches, answerInstr, frameOf]

theorem frameOf_repeatInstr {o : Opc} {r : RptRow} {a d : Byte} (h : repeatRowMatches o a d r = true) :
    frameOf o (repeatInstr r a d) = (a, d) := by
  cases r <;> simp_all [repeatRowMatches, isBroadcastCmd, repeatInstr, frameOf]

/-- A row of `ClassifyAnswer` is encoded by its frame, and only its own condition can fail. -/
theorem answerInstr_encoding (o : Opc) (r : AnsRow) (a d : Byte) :
    wellFormed o (answerInstr r a d) = answerRowOk o (answerInstr r a d) ∧ formatOf (answerInstr r a d) = .answer ∧
      encode o (answerInstr r a d) = frameBytesOf o (answerInstr r a d) := by
  refine ⟨?_, by cases r <;> rfl, by cases r <;> rfl⟩
  have hrest : repeatRowOk o (answerInstr r a d) = true ∧ xmtDefaultOk (answerInstr r a d) = true ∧
      ctlDefaultOk (answerInstr r a d) = true := by cases r <;> exact ⟨rfl, rfl, rfl⟩
  obtain ⟨hrpt, hxmt, hctl⟩ := hrest
  simp [wellFormed, hrpt, hxmt, hctl]

/-- A row of `ClassifyRepeat` is encoded by its frame, and only its own condition can fail. -/
theorem repeatInstr_encoding (o : Opc) (r : RptRow) (a d : Byte) :
    wellFormed o (repeatInstr r a d) = repeatRowOk o (repeatInstr r a d) ∧ formatOf (repeatInstr r a d) = .again ∧
      encode o (repeatInstr r a d) = frameBytesOf o (repeatInstr r a d) := by
  refine ⟨?_, by cases r <;> rfl, by cases r <;> rfl⟩
  have hrest : answerRowOk o (repeatInstr r a d) = true ∧ xmtDefaultOk (repeatInstr r a d) = true ∧
      ctlDefaultOk (repeatInstr r a d) = true := by cases r <;> exact ⟨rfl, rfl, rfl⟩
  obtain ⟨hans, hxmt, hctl⟩ := hrest
  simp [wellFormed, hans, hxmt, hctl]

theorem answerRowOk_iff (o : Opc) {i : Instr} {r : AnsRow} (hr : answerRowOf i = some r) :
    answerRowOk o i = true ↔ selectAnswerRow o (frameOf o i).1 (frameOf o i).2 = r := by
  simp [answerRowOk, hr]

theorem repeatRowOk_iff (o : Opc) {i : Instr} {r : RptRow} (hr : repeatRowOf i = some r) :
    repeatRowOk o i = true ↔ selectRepeatRow o (frameOf o i).1 (frameOf o i).2 = r := by
  simp [repeatRowOk, hr]

theorem wellFormed_iff (o : Opc) (i : Instr) : wellFormed o i = true ↔
    answerRowOk o i = true ∧ repeatRowOk o i = true ∧ xmtDefaultOk i = true ∧ ctlDefaultOk i = true := by
  simp [wellFormed, and_assoc]

/-! ### The encoding table -/

/-- The table of 30_encoding.md: in each format, the bytes of each operation.  A frame is encoded by itself, as the row it
selects. -/
inductive EncodingCase (o : Opc) : Format → List Byte → Instr → Prop
  | ctlEvt (e : CtlEvt) : EncodingCase o .evt8 [ctlEvtCode e] (ctlEvtInstr e)
  | xmtEvt (e : XmtEvt) : EncodingCase o .evt8 [xmtEvtCode e] (xmtEvtInstr e)
  | tick (sample : Bool) : EncodingCase o .evt8 [0x30, boolByte sample] (.montick sample)
  | submit (a d : Byte) (cb : Option CbT) (opt : OptT) :
      EncodingCase o .evt8 (0x40 :: a :: d :: (callbackBytes cb ++ handleBytes opt)) (.transmitmessage a d cb opt)
  | desc (n : Byte) : EncodingCase o .evt8 [0x41, n] (.getstatusdesc n)
  | ctlKey (st : CtlState) (e : CtlEvt) : EncodingCase o .xt12 [ctlStateCode st, ctlEvtCode e] (ctlKeyInstr st e)
  | xmtKey (st : XmtState) (e : XmtEvt) : EncodingCase o .xt12 [xmtStateCode st, xmtEvtCode e] (xmtKeyInstr st e)
  | answer (a d : Byte) : EncodingCase o .answer [a, d] (answerInstr (selectAnswerRow o a d) a d)
  | again (a d : Byte) : EncodingCase o .again [a, d] (repeatInstr (selectRepeatRow o a d) a d)
  | status (st : ResultStatus) : EncodingCase o .st4 (statusBytes st) (statusInstr st)

/-- What the table lists is well-formed, and the encoder gives the bytes the table gives. -/
theorem EncodingCase.encode_eq {o : Opc} {f : Format} {bs : List Byte} {i : Instr} (h : EncodingCase o f bs i) :
    wellFormed o i = true ∧ formatOf i = f ∧ encode o i = bs := by
  cases h with
  | ctlEvt e => cases e <;> exact ⟨rfl, rfl, rfl⟩
  | xmtEvt e => cases e <;> exact ⟨rfl, rfl, rfl⟩
  | tick | submit | desc => exact ⟨rfl, rfl, rfl⟩
  | ctlKey st e => exact ctlKeyInstr_encoding o st e
  | xmtKey st e => exact xmtKeyInstr_encoding o st e
  | answer a d =>
    obtain ⟨hwf, hf, henc⟩ := answerInstr_encoding o (selectAnswerRow o a d) a d
    have hframe := frameOf_answerInstr (answerRowMatches_select o a d)
    refine ⟨?_, hf, by rw [henc, frameBytesOf, hframe]⟩
    rw [hwf, answerRowOk_iff o (answerRowOf_answerInstr _ a d), hframe]
  | again a d =>
    obtain ⟨hwf, hf, henc⟩ := repeatInstr_encoding o (selectRepeatRow o a d) a d
    have hframe := frameOf_repeatInstr (repeatRowMatches_select o a d)
    refine ⟨?_, hf, by rw [henc, frameBytesOf, hframe]⟩
    rw [hwf, repeatRowOk_iff o (repeatRowOf_repeatInstr _ a d), hframe]
  | status st => cases st <;> exact ⟨rfl, rfl, rfl⟩

/-- A well-formed row of `ClassifyAnswer` stands in the table as the row its frame selects. -/
theorem encodingCase_of_answerRow {o : Opc} {i : Instr} {r : AnsRow} (hw : wellFormed o i = true)
    (hr : answerRowOf i = some r) : EncodingCase o (formatOf i) (encode o i) i := by
  have hi := answerInstr_frameOf o hr
  obtain ⟨hwf, hf, henc⟩ := answerInstr_encoding o r (frameOf o i).1 (frameOf o i).2
  rw [hi] at hwf hf henc
  have hsel := (answerRowOk_iff o hr).mp (hwf.symm.trans hw)
  have hcase := EncodingCase.answer (o := o) (frameOf o i).1 (frameOf o i).2
  rw [hsel, hi] at hcase
  rwa [hf, henc]

/-- A well-formed row of `ClassifyRepeat` stands in the table as the row its frame selects. -/
theorem encodingCase_of_repeatRow {o : Opc} {i : Instr} {r : RptRow} (hw : wellFormed o i = true)
    (hr : repeatRowOf i = some r) : EncodingCase o (formatOf i) (encode o i) i := by
  have hi := repeatInstr_frameOf o hr
  obtain ⟨hwf, hf, henc⟩ := repeatInstr_encoding o r (frameOf o i).1 (frameOf o i).2
  rw [hi] at hwf hf henc
  have hsel := (repeatRowOk_iff o hr).mp (hwf.symm.trans hw)
  have hcase := EncodingCase.again (o := o) (frameOf o i).1 (frameOf o i).2
  rw [hsel, hi] at hcase
  rwa [hf, henc]

/-- The table lists every well-formed operation, with its format and its encoding. -/
theorem encodingCase_of_wellFormed {o : Opc} {i : Instr} (hw : wellFormed o i = true) :
    EncodingCase o (formatOf i) (encode o i) i := by
  cases i
  case msgenq => exact .ctlEvt .msgenq
  case xactdone => exact .ctlEvt .xactdone
  case start => exact .xmtEvt .start
  case timeout => exact .xmtEvt .timeout
  case manxmtdone => exact .xmtEvt .manxmtdone
  case manrcvdone => exact .xmtEvt .manrcvdone
  case manrcveror => exact .xmtEvt .manrcveror
  case edgeseen => exact .xmtEvt .edgeseen
  case montick sample => exact .tick sample
  case transmitmessage a d cb opt => exact .submit a d cb opt
  case getstatusdesc n => exact .desc n
  case xmtIdleStart => exact .xmtKey .idle .start
  case xmtWaitXmtDoneManxmtdone => exact .xmtKey .waitXmtDone .manxmtdone
  case xmtWaitXmtDoneManrcveror => exact .xmtKey .waitXmtDone .manrcveror
  case xmtWaitXmtDoneTimeout => exact .xmtKey .waitXmtDone .timeout
  case xmtWaitXmtEchoManrcvdone => exact .xmtKey .waitXmtEcho .manrcvdone
  case xmtWaitXmtEchoManrcveror => exact .xmtKey .waitXmtEcho .manrcveror
  case xmtWaitXmtEchoTimeout => exact .xmtKey .waitXmtEcho .timeout
  case xmtWaitRcvDoneEdgeseen => exact .xmtKey .waitRcvDone .edgeseen
  case xmtWaitRcvDoneManrcvdone => exact .xmtKey .waitRcvDone .manrcvdone
  case xmtWaitRcvDoneManrcveror => exact .xmtKey .waitRcvDone .manrcveror
  case xmtWaitRcvDoneTimeout => exact .xmtKey .waitRcvDone .timeout
  case xmtWaitFrameTimeTimeout => exact .xmtKey .waitFrameTime .timeout
  case xmtWaitBackFrameTimeTimeout => exact .xmtKey .waitBackFrameTime .timeout
  case ctlIdleMsgenq => exact .ctlKey .idle .msgenq
  case ctlWaitMsgenq => exact .ctlKey .wait .msgenq
  case ctlWaitXactdone => exact .ctlKey .wait .xactdone
  case xmtDefault st e =>
    obtain ⟨_, _, hok, _⟩ := (wellFormed_iff o _).mp hw
    rw [← xmtKeyInstr_of_noRow (by simpa [xmtDefaultOk] using hok)]
    obtain ⟨_, hf, henc⟩ := xmtKeyInstr_encoding o st e
    rw [hf, henc]
    exact .xmtKey st e
  case ctlDefault st e =>
    obtain ⟨_, _, _, hok⟩ := (wellFormed_iff o _).mp hw
    rw [← ctlKeyInstr_of_noRow (by simpa [ctlDefaultOk] using hok)]
    obtain ⟨_, hf, henc⟩ := ctlKeyInstr_encoding o st e
    rw [hf, henc]
    exact .ctlKey st e
  case stOk => exact .status .ok
  case stRcvOk => exact .status .rcvOk
  case stRcvErr => exact .status .rcvErr
  case stXmtTimeout => exact .status .xmtTimeout
  case stBusErr => exact .status .busErr
  case stEchoErr => exact .status .echoErr
  case stRcvTimeout => exact .status .rcvTimeout
  case stBusCol => exact .status .busCol
  case stIllOp => exact .status .illOp
  case stBusMonBad => exact .status .busMonBad
  case rptInitialise | rptRandomise | rptRangeResetEnableWriteMemoryBroadcast | rptRangeResetEnableWriteMemoryIndividual |
      rptRangeRefsyspowerSelectDimCurveBroadcast | rptRangeRefsyspowerSelectDimCurveIndividual | rptDefault =>
    exact encodingCase_of_repeatRow hw rfl
  all_goals exact encodingCase_of_answerRow hw rfl

/-- The decoder reads what the table lists, whatever follows. -/
theorem EncodingCase.decode_eq {o : Opc} {f : Format} {bs : List Byte} {i : Instr} (h : EncodingCase o f bs i)
    (rest : List Byte) : decode o f (bs ++ rest) = .ok i rest := by
  cases h with
  | ctlEvt e => simp [decode, decodeEvt8]
  | xmtEvt e => simp [decode, decodeEvt8]
  | tick sample => cases sample <;> rfl
  | submit a d cb opt =>
    rw [List.cons_append, List.cons_append, List.cons_append, List.append_assoc]
    exact decodeTransmit_encode a d cb opt rest
  | desc n => rfl
  | ctlKey st e => simp [decode, decodeXt12, keyInstr_ctl]
  | xmtKey st e => simp [decode, decodeXt12, keyInstr_xmt]
  | answer | again => rfl
  | status st => cases st <;> rfl

/-! ### What the decoder reads stands in the table -/

theorem decodeTick_ok {bs rest : List Byte} {i : Instr} (hd : decodeTick bs = .ok i rest) :
    ∃ sample, i = .montick sample ∧ boolByte sample :: rest = bs := by
  unfold decodeTick at hd
  split at hd
  · contradiction
  · split_ifs at hd with h0 h1 <;> cases hd
    · exact ⟨false, rfl, by rw [h0]; rfl⟩
    · exact ⟨true, rfl, by rw [h1]; rfl⟩

theorem decodeDesc_ok {bs rest : List Byte} {i : Instr} (hd : decodeDesc bs = .ok i rest) :
    ∃ n, i = .getstatusdesc n ∧ n :: rest = bs := by
  cases bs <;> cases hd
  exact ⟨_, rfl, rfl⟩

theorem decodeEvt8_ok (o : Opc) {input rest : List Byte} {i : Instr} (hd : decodeEvt8 input = .ok i rest) :
    ∃ bs, EncodingCase o .evt8 bs i ∧ bs ++ rest = input := by
  unfold decodeEvt8 at hd
  split at hd
  · contradiction
  split at hd
  · rename_i e he
    cases hd
    exact ⟨_, .ctlEvt e, by rw [ctlEvtCode_of_ctlEvtOf he]; rfl⟩
  split at hd
  · rename_i e he
    cases hd
    exact ⟨_, .xmtEvt e, by rw [xmtEvtCode_of_xmtEvtOf he]; rfl⟩
  split_ifs at hd with htick hsubmit hdesc
  · obtain ⟨sample, rfl, rfl⟩ := decodeTick_ok hd
    exact ⟨_, .tick sample, by rw [htick]; rfl⟩
  · obtain ⟨a, d, cb, opt, rfl, rfl⟩ := decodeTransmit_ok hd
    exact ⟨_, .submit a d cb opt, by rw [hsubmit]; simp⟩
  · obtain ⟨n, rfl, rfl⟩ := decodeDesc_ok hd
    exact ⟨_, .desc n, by rw [hdesc]; rfl⟩

/-- A key that names an operation is made of the codes of a state and an event of one machine. -/
theorem keyInstr_ok (o : Opc) {st ev : Byte} {i : Instr} (hk : keyInstr st ev = some i) :
    EncodingCase o .xt12 [st, ev] i := by
  unfold keyInstr at hk
  split at hk
  · rename_i e he
    split at hk
    · rename_i c hc
      cases hk
      rw [← ctlStateCode_of_ctlStateOf hc, ← ctlEvtCode_of_ctlEvtOf he]
      exact .ctlKey c e
    · contradiction
  · split at hk
    · rename_i e x he hx
      cases hk
      rw [← xmtStateCode_of_xmtStateOf hx, ← xmtEvtCode_of_xmtEvtOf he]
      exact .xmtKey x e
    · contradiction

/-- Whatever the decoder answers, it followed the table. -/
theorem encodingCase_of_decode {o : Opc} {f : Format} {input rest : List Byte} {i : Instr}
    (hd : decode o f input = .ok i rest) : ∃ bs, EncodingCase o f bs i ∧ bs ++ rest = input := by
  cases f with
  | evt8 => exact decodeEvt8_ok o hd
  | xt12 =>
    simp only [decode, decodeXt12] at hd
    split at hd
    · split at hd
      · rename_i hk
        cases hd
        exact ⟨_, keyInstr_ok o hk, rfl⟩
      · contradiction
    · contradiction
  | answer =>
    simp only [decode, decodeAnswer] at hd
    split at hd <;> cases hd
    exact ⟨_, .answer _ _, rfl⟩
  | again =>
    simp only [decode, decodeRepeat] at hd
    split at hd <;> cases hd
    exact ⟨_, .again _ _, rfl⟩
  | st4 =>
    simp only [decode, decodeSt4] at hd
    split at hd
    · contradiction
    · split at hd
      · rename_i st hst
        cases hd
        exact ⟨_, .status st, by rw [statusBytes_of_statusOfCode hst]; rfl⟩
      · contradiction

/-- Settles O1: the table lists every well-formed operation, and the decoder reads what the table lists. -/
theorem decodeInvertsEncode : Obligations.DecodeInvertsEncode :=
  fun _ _ rest hw => (encodingCase_of_wellFormed hw).decode_eq rest

/-- Settles O2: the decoder follows the table, and so does the encoder. -/
theorem decodedIsCanonical : Obligations.DecodedIsCanonical := by
  intro o f input rest i hd
  obtain ⟨bs, hcase, hbs⟩ := encodingCase_of_decode hd
  obtain ⟨hwf, hf, henc⟩ := hcase.encode_eq
  exact ⟨hwf, hf, by rw [henc, hbs]⟩

/-- Settles O3: each word is the encoding of the operation beside it, so decoding inverts it. -/
theorem sampleWordsDecode : Obligations.SampleWordsDecode := by
  have hdecode (i : Instr) (hw : wellFormed defaultOpc i = true) :
      decode defaultOpc (formatOf i) (encode defaultOpc i ++ []) = .ok i [] := decodeInvertsEncode _ i [] hw
  exact ⟨hdecode .msgenq rfl, hdecode .edgeseen rfl, hdecode (.montick true) rfl,
    hdecode .xmtWaitXmtEchoManrcvdone rfl, hdecode .ctlWaitXactdone rfl,
    hdecode (.ansQRequiredQueryStatus 0x01) (by decide), hdecode (.ansDefault 0xFF 0x00) (by decide),
    hdecode (.rptRangeResetEnableWriteMemoryIndividual 0x0B 0x20) (by decide), hdecode .stBusErr rfl⟩

/-! ### What the decoder refuses (R105) -/

theorem ctlEvtOf_eq_none {c : Byte} (h : c ∉ [0x10#8, 0x11#8]) : ctlEvtOf c = none := by
  cases hc : ctlEvtOf c with
  | none => rfl
  | some e => exact absurd (by rw [← ctlEvtCode_of_ctlEvtOf hc]; cases e <;> decide) h

theorem xmtEvtOf_eq_none {c : Byte} (h : c ∉ [0x20#8, 0x21#8, 0x22#8, 0x23#8, 0x24#8, 0x25#8]) : xmtEvtOf c = none := by
  cases hc : xmtEvtOf c with
  | none => rfl
  | some e => exact absurd (by rw [← xmtEvtCode_of_xmtEvtOf hc]; cases e <;> decide) h

theorem ctlStateOf_eq_none {c : Byte} (h : 2 ≤ c.toNat) : ctlStateOf c = none := by
  cases hc : ctlStateOf c with
  | none => rfl
  | some st =>
    have hlt : (ctlStateCode st).toNat < 2 := by cases st <;> decide
    rw [ctlStateCode_of_ctlStateOf hc] at hlt
    omega

theorem xmtStateOf_eq_none {c : Byte} (h : 6 ≤ c.toNat) : xmtStateOf c = none := by
  cases hc : xmtStateOf c with
  | none => rfl
  | some st =>
    have hlt : (xmtStateCode st).toNat < 6 := by cases st <;> decide
    rw [xmtStateCode_of_xmtStateOf hc] at hlt
    omega

theorem statusOfCode_eq_none {n : Nat} (h : 10 ≤ n) : statusOfCode n = none := by
  cases hn : statusOfCode n with
  | none => rfl
  | some st =>
    have hlt : (statusCode st).toNat < 10 := by cases st <;> decide
    rw [statusCode_of_statusOfCode hn] at hlt
    omega

/-- The codes of the eight events are those of the two classes. -/
theorem not_mem_eventCodes {c : Byte} (h : c ∉ [0x10#8, 0x11#8, 0x20#8, 0x21#8, 0x22#8, 0x23#8, 0x24#8, 0x25#8]) :
    ctlEvtOf c = none ∧ xmtEvtOf c = none := by
  change c ∉ [0x10#8, 0x11#8] ++ [0x20#8, 0x21#8, 0x22#8, 0x23#8, 0x24#8, 0x25#8] at h
  rw [List.mem_append, not_or] at h
  exact h.imp ctlEvtOf_eq_none xmtEvtOf_eq_none

theorem decodeEvt8_unknown {c : Byte} (rest : List Byte)
    (h : c ∉ [0x10#8, 0x11#8, 0x20#8, 0x21#8, 0x22#8, 0x23#8, 0x24#8, 0x25#8, 0x30#8, 0x40#8, 0x41#8]) :
    decodeEvt8 (c :: rest) = .error (.unknownEvent c) := by
  change c ∉ [0x10#8, 0x11#8, 0x20#8, 0x21#8, 0x22#8, 0x23#8, 0x24#8, 0x25#8] ++ [0x30#8, 0x40#8, 0x41#8] at h
  rw [List.mem_append, not_or] at h
  obtain ⟨hevents, hcalls⟩ := h
  obtain ⟨hctl, hxmt⟩ := not_mem_eventCodes hevents
  simp only [List.mem_cons, List.not_mem_nil, or_false, not_or] at hcalls
  obtain ⟨htick, hsubmit, hdesc⟩ := hcalls
  simp [decodeEvt8, hctl, hxmt, htick, hsubmit, hdesc]

/-- A key is reserved when its event byte names no event, or its state byte no state of that event's machine. -/
theorem keyInstr_eq_none {st ev : Byte}
    (h : ev ∉ [0x10#8, 0x11#8, 0x20#8, 0x21#8, 0x22#8, 0x23#8, 0x24#8, 0x25#8] ∨
      ev ∈ [0x10#8, 0x11#8] ∧ 2 ≤ st.toNat ∨ 6 ≤ st.toNat) : keyInstr st ev = none := by
  rcases h with hev | ⟨hev, hst⟩ | hst
  · obtain ⟨hctl, hxmt⟩ := not_mem_eventCodes hev
    simp [keyInstr, hctl, hxmt]
  · have hctl : ∃ e, ctlEvtOf ev = some e := by
      simp only [List.mem_cons, List.not_mem_nil, or_false] at hev
      rcases hev with rfl | rfl
      exacts [⟨.msgenq, rfl⟩, ⟨.xactdone, rfl⟩]
    obtain ⟨e, he⟩ := hctl
    simp [keyInstr, he, ctlStateOf_eq_none hst]
  · have hctl := ctlStateOf_eq_none (Nat.le_trans (by decide : 2 ≤ 6) hst)
    cases he : ctlEvtOf ev <;> simp [keyInstr, he, hctl, xmtStateOf_eq_none hst]

/-- A byte that is neither 0 nor 1, as every flag byte of an operand is. -/
theorem flag_ne {v : Byte} (h : 2 ≤ v.toNat) : v ≠ 0#8 ∧ v ≠ 1#8 := by
  constructor <;> rintro rfl <;> contradiction

theorem decodeTick_badOperand {v : Byte} (hv : 2 ≤ v.toNat) (rest : List Byte) :
    decodeTick (v :: rest) = .error (.badOperand v) := by
  obtain ⟨h0, h1⟩ := flag_ne hv
  simp [decodeTick, h0, h1]

/-- A handle is refused where a byte of it, or its end, should stand. -/
theorem decodeHandle_badOperand {v : Byte} (hv : 2 ≤ v.toNat) (h rest : List Byte) :
    decodeHandle (h.flatMap (fun b => [1#8, b]) ++ v :: rest) = .error (.badOperand v) := by
  obtain ⟨h0, h1⟩ := flag_ne hv
  induction h with
  | nil => cases rest <;> simp [decodeHandle, h0, h1]
  | cons b t ih => simp [decodeHandle, ih]

theorem decodeCallback_badFlag {v : Byte} (hv : 2 ≤ v.toNat) (rest : List Byte) :
    decodeCallback (v :: rest) = .error (.badOperand v) := by
  obtain ⟨h0, h1⟩ := flag_ne hv
  simp [decodeCallback, h0, h1]

theorem decodeCallback_handle_error {bs : List Byte} {e : DecodeError} (h : decodeHandle bs = .error e) :
    decodeCallback (1 :: bs) = .error e := by
  simp [decodeCallback, h]

/-- A call is refused as its callback is. -/
theorem decodeTransmit_callback_error {bs : List Byte} {e : DecodeError} (a d : Byte) (h : decodeCallback bs = .error e) :
    decodeTransmit (a :: d :: bs) = .error e := by
  simp [decodeTransmit, h]

/-- After its callback a call is refused as its option is. -/
theorem decodeTransmit_option_error {bs : List Byte} {e : DecodeError} (a d : Byte) (cb : Option CbT)
    (h : decodeHandle bs = .error e) : decodeTransmit (a :: d :: (callbackBytes cb ++ bs)) = .error e := by
  simp [decodeTransmit, decodeCallback_callbackBytes, h]

/-! ### Encodings cut short -/

theorem decodeHandle_truncated (h : List Byte) {k : Nat} (hk : k < (handleBytes h).length) :
    decodeHandle ((handleBytes h).take k) = .error .truncated := by
  induction h generalizing k with
  | nil =>
    obtain rfl : k = 0 := by simpa [handleBytes] using hk
    rfl
  | cons b t ih =>
    match k with
    | 0 | 1 => rfl
    | k + 2 =>
      have hk : k < (handleBytes t).length := by simpa [handleBytes] using hk
      simp [handleBytes, decodeHandle, ih hk]

theorem decodeCallback_truncated (cb : Option CbT) {k : Nat} (hk : k < (callbackBytes cb).length) :
    decodeCallback ((callbackBytes cb).take k) = .error .truncated := by
  match k, cb with
  | 0, _ => rfl
  | k + 1, none => simp [callbackBytes] at hk
  | k + 1, some h =>
    have hk : k < (handleBytes h).length := by simpa [callbackBytes] using hk
    exact decodeCallback_handle_error (decodeHandle_truncated h hk)

/-- A call cut short ends before its callback, within it, or within its option. -/
theorem decodeTransmit_truncated (a d : Byte) (cb : Option CbT) (opt : OptT) {k : Nat}
    (hk : k < (a :: d :: (callbackBytes cb ++ handleBytes opt)).length) :
    decodeTransmit ((a :: d :: (callbackBytes cb ++ handleBytes opt)).take k) = .error .truncated := by
  match k with
  | 0 | 1 => rfl
  | k + 2 =>
    rw [List.take_succ_cons, List.take_succ_cons]
    rcases Nat.lt_or_ge k (callbackBytes cb).length with hcb | hcb
    · rw [List.take_append_of_le_length hcb.le]
      exact decodeTransmit_callback_error a d (decodeCallback_truncated cb hcb)
    · rw [List.take_append, List.take_of_length_le hcb]
      simp only [List.length_cons, List.length_append] at hk
      exact decodeTransmit_option_error a d cb (decodeHandle_truncated opt (by omega))

/-- Fewer bytes than the code of the format takes. -/
theorem decode_truncated_code (o : Opc) (f : Format) {bs : List Byte} (h : bs.length < Laws.EncodeWidth.codeBytes f) :
    decode o f bs = .error .truncated := by
  match bs with
  | [] => cases f <;> rfl
  | [_] =>
    cases f with
    | xt12 | answer | again => rfl
    | evt8 | st4 => contradiction
  | _ :: _ :: _ => cases f <;> simp [Laws.EncodeWidth.codeBytes] at h

/-- Every operation is encoded in as many bytes as its row says. -/
theorem encode_width (i : Instr) : Laws.EncodeWidth.Statement i := by
  cases i
  case transmitmessage a d cb opt => exact Laws.EncodeWidth.transmitmessage a d cb opt
  all_goals exact fun _ => rfl

/-- An encoding cut short is refused as truncated (R105). -/
theorem decode_take_encode (o : Opc) (i : Instr) {k : Nat} (hk : k < (encode o i).length) :
    decode o (formatOf i) ((encode o i).take k) = .error .truncated := by
  by_cases hcode : k < Laws.EncodeWidth.codeBytes (formatOf i)
  · exact decode_truncated_code o _ (by rw [List.length_take]; omega)
  · -- the cut lies within the operands, so the operation is one of the three calls
    have hpos : 0 < Laws.EncodeWidth.operandBytes i := by
      have hwidth := encode_width i o
      omega
    unfold Laws.EncodeWidth.operandBytes at hpos
    split at hpos
    · obtain rfl : k = 1 := Nat.eq_of_le_of_lt_succ (Nat.not_lt.mp hcode) hk
      rfl
    · rename_i a d cb opt
      obtain ⟨k, rfl⟩ : ∃ j, k = j + 1 := Nat.exists_eq_succ_of_ne_zero (by rintro rfl; exact hcode Nat.zero_lt_one)
      exact decodeTransmit_truncated a d cb opt (by simpa [encode] using hk)
    · obtain rfl : k = 1 := Nat.eq_of_le_of_lt_succ (Nat.not_lt.mp hcode) hk
      rfl
    · contradiction

/-- Settles O4: a refused operand byte of a call is one where its callback or its option refuses. -/
theorem reservedCodesRefused : Obligations.ReservedCodesRefused := by
  intro o rest
  refine ⟨fun c hc => decodeEvt8_unknown rest hc, fun st ev h => ?_, fun c hc => ?_, fun a d => ⟨⟨_, rfl⟩, ⟨_, rfl⟩⟩,
    fun v hv => ⟨decodeTick_badOperand hv rest, fun a d => ⟨?_, fun h => ?_, fun cb h => ?_⟩⟩,
    fun i k hk => decode_take_encode o i hk⟩
  · simp [decode, decodeXt12, keyInstr_eq_none h]
  · simp [decode, decodeSt4, statusOfCode_eq_none hc]
  · exact decodeTransmit_callback_error a d (decodeCallback_badFlag hv rest)
  · exact decodeTransmit_callback_error a d (decodeCallback_handle_error (decodeHandle_badOperand hv h rest))
  · exact decodeTransmit_option_error a d cb (decodeHandle_badOperand hv h rest)

end Sys2Proof
end

section
/-! PROOFS of the statements about operations and script lines: the rows of the table as operations (R101, R109), and the
lines of a script (R107, R108). -/

namespace Sys2Proof.Machine

/-! ### Dispatch keys (R101) -/

/-- A key's rule may be given by what it does in the state the key names. -/
theorem inXmtState_of_rule {st : XmtState} {rule : State → State} {s t : State} (h : s.xmtState = st → rule s = t) :
    inXmtState st rule s = if s.xmtState = st then .next t else .refused .keyNotCurrent := by
  unfold inXmtState
  split
  · rename_i hs; rw [h hs]
  · rfl

theorem inCtlState_of_rule {st : CtlState} {rule : State → Result} {s : State} {r : Result}
    (h : s.ctlState = st → rule s = r) :
    inCtlState st rule s = if s.ctlState = st then r else .refused .keyNotCurrent := by
  unfold inCtlState
  split
  · rename_i hs; exact h hs
  · rfl

/-- The row an XMT key names is the dispatch of its event, in the state the key names and in no other (R101, R198). -/
theorem exec_xmtKeyInstr (st : XmtState) (e : XmtEvt) (s : State) :
    exec (xmtKeyInstr st e) s = if s.xmtState = st then exec (xmtEvtInstr e) s else .refused .keyNotCurrent := by
  cases e with
  | start => cases st <;> exact inXmtState_of_rule fun hs => by simp [dispatchStart, hs]
  | timeout => cases st <;> exact inXmtState_of_rule fun hs => by simp [dispatchTimeout, hs]
  | manxmtdone => cases st <;> exact inXmtState_of_rule fun hs => by simp [dispatchManxmtdone, hs]
  | manrcvdone => cases st <;> exact inXmtState_of_rule fun hs => by simp [dispatchManrcvdone, hs]
  | manrcveror => cases st <;> exact inXmtState_of_rule fun hs => by simp [dispatchManrcveror, hs]
  | edgeseen => cases st <;> exact inXmtState_of_rule fun hs => by simp [dispatchEdgeseen, hs]

/-- The row a CTL key names is the dispatch of its event, in the state the key names and in no other (R101, R230). -/
theorem exec_ctlKeyInstr (st : CtlState) (e : CtlEvt) (s : State) :
    exec (ctlKeyInstr st e) s = if s.ctlState = st then exec (ctlEvtInstr e) s else .refused .keyNotCurrent := by
  cases e with
  | msgenq => cases st <;> exact inCtlState_of_rule fun hs => by simp [ctlEvtInstr, exec, execMsgenq, dispatchMsgenq, hs]
  | xactdone =>
    cases st <;> exact inCtlState_of_rule fun hs => by simp [ctlEvtInstr, exec, execXactdone, dispatchXactdone, hs]

/-- Settles O26. -/
theorem keyRowIsTheDispatch : Obligations.KeyRowIsTheDispatch := by
  intro s
  exact ⟨fun e => by rw [exec_xmtKeyInstr, if_pos rfl], fun e => by rw [exec_ctlKeyInstr, if_pos rfl]⟩

/-! ### Classifier rows (R109, R131, R139) -/

theorem evalAnswerRow_of_ne {r : AnsRow} {a d : Byte} {s : State} (h : selectAnswerRow s.params.opc a d ≠ r) :
    evalAnswerRow r a d s = .refused .rowNotSelected := by
  rw [evalAnswerRow, if_neg h]

theorem evalRepeatRow_of_ne {r : RptRow} {a d : Byte} {s : State} (h : selectRepeatRow s.params.opc a d ≠ r) :
    evalRepeatRow r a d s = .refused .rowNotSelected := by
  rw [evalRepeatRow, if_neg h]

/-- Settles O27. -/
theorem operationsOutsideTheirRowRefused : Obligations.OperationsOutsideTheirRowRefused := by
  intro s
  refine ⟨fun st e hst => ?_, fun st e hst => ?_, fun st e hrow => if_pos hrow, fun st e hrow => if_pos hrow,
    fun i r hr hok => ?_, fun i r hr hok => ?_⟩
  · rw [exec_xmtKeyInstr, if_neg hst.symm]
  · rw [exec_ctlKeyInstr, if_neg hst.symm]
  · rw [exec_answerRow i r s hr]
    exact evalAnswerRow_of_ne (mt (answerRowOk_iff _ hr).mpr (Bool.eq_false_iff.mp hok))
  · rw [exec_repeatRow i r s hr]
    exact evalRepeatRow_of_ne (mt (repeatRowOk_iff _ hr).mpr (Bool.eq_false_iff.mp hok))

/-- What the first matching row of a list gives, or `d` if none matches: how the table reads a frame (R109). -/
def firstMatch {α β : Type} (result : α → β) (p : α → Bool) (d : α) (rows : List α) : β := result ((rows.find? p).getD d)

/-- Rows that stand first and all give `a` give it exactly when one of them matches. -/
theorem firstMatch_append {α β : Type} {result : α → β} {p : α → Bool} {d : α} {group rest : List α} {c : Bool} {a : β}
    (hc : group.any p = c) (ha : ∀ r ∈ group, result r = a) :
    firstMatch result p d (group ++ rest) = if c then a else firstMatch result p d rest := by
  subst hc
  unfold firstMatch
  rw [List.find?_append]
  cases hf : group.find? p with
  | none =>
    have hany : group.any p = false := by simpa using hf
    simp [hany]
  | some r =>
    have hr := List.mem_of_find?_eq_some hf
    have hany : group.any p = true := List.any_eq_true.mpr ⟨r, hr, List.find?_some hf⟩
    simp [hany, ha r hr]

/-- The rows of each rule match when its class does (R132 to R138), so the selected row gives what `ClassifyAnswer` gives. -/
theorem answerRowResult_select (o : Opc) (a d : Byte) (dbg : Bool) :
    answerRowResult (selectAnswerRow o a d) a dbg = classifyAnswer o a d dbg := by
  have hlevel : [AnsRow.level].any (answerRowMatches o a d) = !isCmd a := by simp [answerRowMatches]
  have hmaybe : [AnsRow.compare, .writeMemoryLocation].any (answerRowMatches o a d) = spcMaybe o a d := by
    simp [answerRowMatches, spcMaybe]
  have hrequired : [AnsRow.queryShortAddr, .verifyShortAddr].any (answerRowMatches o a d) = spcRequired o a d := by
    simp [answerRowMatches, spcRequired]
  have hnone : [AnsRow.initialise, .randomise, .withdraw, .searchaddrh, .searchaddrm, .searchaddrl, .programShortAddr,
      .enableDeviceType, .dtr, .dtr1, .dtr2].any (answerRowMatches o a d) = spcNone o a := by
    simp [answerRowMatches, spcNone, Bool.or_assoc]
  have hqRequired : [AnsRow.queryStatus, .versionMinlevel, .contentDtr1Dtr2, .actualLevelFadeRate, .sceneLevelReadMemory,
      .gearTypeExtVersion].any (answerRowMatches o a d) = qRequired o d := by
    simp [answerRowMatches, qRequired, Bool.or_assoc]
  have hqMaybe : [AnsRow.gearPresentMissingShort, .powerFailure].any (answerRowMatches o a d) = qMaybe o d := by
    simp [answerRowMatches, qMaybe]
  calc answerRowResult (selectAnswerRow o a d) a dbg
    _ = firstMatch (answerRowResult · a dbg) (answerRowMatches o a d) .other
          ([.level] ++ ([.compare, .writeMemoryLocation] ++ ([.queryShortAddr, .verifyShortAddr] ++
            ([.initialise, .randomise, .withdraw, .searchaddrh, .searchaddrm, .searchaddrl, .programShortAddr,
                .enableDeviceType, .dtr, .dtr1, .dtr2] ++
              ([.queryStatus, .versionMinlevel, .contentDtr1Dtr2, .actualLevelFadeRate, .sceneLevelReadMemory,
                  .gearTypeExtVersion] ++ ([.gearPresentMissingShort, .powerFailure] ++ [.other])))))) := rfl
    _ = classifyAnswer o a d dbg := by
      rw [firstMatch_append (a := .none) hlevel (by simp [answerRowResult]),
        firstMatch_append (a := .maybe) hmaybe (by simp [answerRowResult]),
        firstMatch_append (a := .required) hrequired (by simp [answerRowResult]),
        firstMatch_append (a := .none) hnone (by simp [answerRowResult]),
        firstMatch_append (a := queryAnswer .required a dbg) hqRequired (by simp [answerRowResult]),
        firstMatch_append (a := queryAnswer .maybe a dbg) hqMaybe (by simp [answerRowResult])]
      rfl

/-- The four rows of rule 3 match when it applies (R142), so the selected row gives what `ClassifyRepeat` gives. -/
theorem repeatRowResult_select (o : Opc) (a d : Byte) :
    repeatRowResult (selectRepeatRow o a d) = classifyRepeat o a d := by
  have hinitialise : [RptRow.initialise].any (repeatRowMatches o a d) = (a == o.spcInitialise) := by
    simp [repeatRowMatches]
  have hrandomise : [RptRow.randomise].any (repeatRowMatches o a d) = (d == 0#8 && a == o.spcRandomise) := by
    simp [repeatRowMatches, Bool.and_comm]
  have hrange : [RptRow.resetBroadcast, .resetIndividual, .powerBroadcast, .powerIndividual].any (repeatRowMatches o a d) =
      ((isBroadcastCmd a || (isCmd a && isIndividual a)) && rptRange o d) := by
    simp only [List.any_cons, List.any_nil, repeatRowMatches, rptRange]
    cases isBroadcastCmd a <;> cases isCmd a <;> cases isIndividual a <;> simp
  calc repeatRowResult (selectRepeatRow o a d)
    _ = firstMatch repeatRowResult (repeatRowMatches o a d) .other
          ([.initialise] ++ ([.randomise] ++ ([.resetBroadcast, .resetIndividual, .powerBroadcast, .powerIndividual] ++
            [.other]))) := rfl
    _ = classifyRepeat o a d := by
      rw [firstMatch_append (a := true) hinitialise (by simp [repeatRowResult]),
        firstMatch_append (a := true) hrandomise (by simp [repeatRowResult]),
        firstMatch_append (a := true) hrange (by simp [repeatRowResult])]
      rfl

/-- Settles O11: a well-formed row is the one its frame selects. -/
theorem classifierRowsReturnTheirResult : Obligations.ClassifierRowsReturnTheirResult := by
  intro s i hw addr data
  obtain ⟨hans, hrpt, _, _⟩ := (wellFormed_iff _ i).mp hw
  refine ⟨fun r hr => ?_, fun r hr => ?_⟩
  · have hsel := (answerRowOk_iff _ hr).mp hans
    rw [exec_answerRow i r s hr, evalAnswerRow, if_pos hsel, ← hsel, answerRowResult_select]
    rfl
  · have hsel := (repeatRowOk_iff _ hr).mp hrpt
    rw [exec_repeatRow i r s hr, evalRepeatRow, if_pos hsel, ← hsel, repeatRowResult_select]
    rfl

/-! ### Status rows (R104, R250) -/

/-- A status row returns the string of its status and writes nothing else. -/
theorem exec_statusInstr (st : ResultStatus) (s : State) :
    exec (statusInstr st) s = .next { s with returned := .text (statusString s.params.strings st) } := by
  cases st <;> rfl

/-- Settles O33: the list is the table of R251, status by status. -/
theorem statusRowsDescribe : Obligations.StatusRowsDescribe := by
  intro s i text hmem
  change (i, text) ∈ [ResultStatus.ok, .rcvOk, .rcvErr, .xmtTimeout, .busErr, .echoErr, .rcvTimeout, .busCol, .illOp,
    .busMonBad].map (fun st => (statusInstr st, statusString s.params.strings st)) at hmem
  obtain ⟨st, _, hst⟩ := List.mem_map.mp hmem
  cases hst
  exact exec_statusInstr st s

/-! ### Script lines that are operations (R107) -/

theorem runOp_of_ok {s : State} {f : Format} {bytes after : List Byte} {i : Instr}
    (hd : decode s.params.opc f bytes = .ok i after) : runOp f bytes s = exec i s := by
  rw [runOp, hd]

theorem runOp_of_error {s : State} {f : Format} {bytes : List Byte} {e : DecodeError}
    (hd : decode s.params.opc f bytes = .error e) : runOp f bytes s = .refused (.undecodable e) := by
  rw [runOp, hd]

/-- Settles O35. -/
theorem stepRunsDecoded : Obligations.StepRunsDecoded := by
  intro s f bytes rest hs
  rw [step_of_script hs]
  exact ⟨fun _ _ hd => runOp_of_ok hd, fun _ hd => runOp_of_error hd⟩

/-- A line that was put before the script is the next one run. -/
theorem step_expand_singleton (l : Line) (s : State) : step (expand [l] s) = runLine l s := rfl

/-- Naming the state of a key leaves the opcode constants alone. -/
theorem selectKeyState_params (nbits w : Nat) (s : State) : (selectKeyState nbits w s).params = s.params := by
  unfold selectKeyState
  split
  · split <;> split <;> rfl
  · rfl

theorem decode_of_decodeTableWord {nbits w : Nat} {i : Instr} (h : decodeTableWord nbits w = some i) :
    ∃ after, decode defaultOpc (tableFormat nbits w) (tableBytes nbits w) = .ok i after := by
  unfold decodeTableWord at h
  split at h
  · rename_i after hd
    cases h
    exact ⟨after, hd⟩
  · contradiction

/-- Settles O36. -/
theorem tableWordRuns : Obligations.TableWordRuns := by
  intro s nbits w i hopc hw
  obtain ⟨after, hd⟩ := decode_of_decodeTableWord hw
  have hparams : (selectKeyState nbits w s).params.opc = defaultOpc := by rw [selectKeyState_params, hopc]
  calc step (s.withFetchWord nbits w)
    _ = runLine (tableLine nbits w) (selectKeyState nbits w s) := step_expand_singleton _ _
    _ = exec i (selectKeyState nbits w s) := runOp_of_ok (hparams ▸ hd)

/-! ### Lines of the environment (R277 to R281, R313) -/

theorem runXmtDone_of_allowed {s : State} (h : s.params.transmitContract = true → s.txBusy = true) :
    runXmtDone s = .next { s with txBusy := false, xmtq := s.xmtq ++ [.manxmtdone] } :=
  if_neg fun ⟨hidle, hc⟩ => by simp [h hc] at hidle

/-- A receive that its contracts allow: the bytes that were armed for go to the buffer (R279, R280). -/
theorem runRcvDone_of_armed {s : State} {bytes : List Byte} {b : RxBuf} {n : Nat} (ha : s.rxArmed = some (b, n))
    (hlen : s.params.receiveContract = true → bytes.length = n)
    (horder : b = .echo → s.params.echoOrderContract = true → s.txBusy = false) :
    runRcvDone bytes s =
      .next (envPostXmt .manrcvdone (storeBytes b 0 (bytes.take n) { s with rxArmed := none })) := by
  have hlen : ¬(bytes.length ≠ n ∧ s.params.receiveContract = true) := fun ⟨hne, hc⟩ => hne (hlen hc)
  have horder : ¬(b = .echo ∧ s.txBusy = true ∧ s.params.echoOrderContract = true) := fun ⟨hb, hbusy, hc⟩ => by
    simp [horder hb hc] at hbusy
  simp only [runRcvDone, ha, if_neg hlen, if_neg horder]

/-- With R279 dropped an unarmed receive event is posted and nothing is stored (U15). -/
theorem runRcvDone_of_unarmed {s : State} (bytes : List Byte) (ha : s.rxArmed = none)
    (hc : s.params.receiveContract = false) : runRcvDone bytes s = .next (envPostXmt .manrcvdone s) := by
  simp [runRcvDone, ha, hc]

theorem runRcvErr_of_armed {s : State} {b : RxBuf} {n : Nat} (ha : s.rxArmed = some (b, n)) :
    runRcvErr s = .next (envPostXmt .manrcveror (surrender b { s with rxArmed := none })) := by
  simp only [runRcvErr, ha]

theorem runRcvErr_of_unarmed {s : State} (ha : s.rxArmed = none) (hc : s.params.receiveContract = false) :
    runRcvErr s = .next (envPostXmt .manrcveror s) := by
  simp [runRcvErr, ha, hc]

theorem runEdge_of_allowed {s : State} (h : s.params.receiveContract = true → s.rxArmed ≠ none) :
    runEdge s = .next (envPostXmt .edgeseen s) :=
  if_neg fun ⟨hidle, hc⟩ => h hc hidle

theorem runExpire_of_allowed {s : State} (h : s.params.timerContract = true → s.tmrArmed = true) :
    runExpire s = .next { s with tmrArmed := false, xmtq := s.xmtq ++ [.timeout] } :=
  if_neg fun ⟨hidle, hc⟩ => by simp [h hc] at hidle

/-- Settles O38: one reasoning rule per line. -/
theorem environmentLines : Obligations.EnvironmentLines := by
  intro s rest post
  have hrun {l : Line} (hs : s.script = l :: rest) : step s = runLine l { s with script := rest } := step_of_script hs
  refine ⟨fun hs h => ?_, fun bytes n hs ha hlen horder => ?_, fun bytes n hs ha hlen => ?_, fun hs ⟨n, ha⟩ => ?_,
    fun hs ⟨n, ha⟩ => ?_, fun hs h => ?_, fun ha hc => ⟨fun bytes hs => ?_, fun hs => ?_⟩, fun hs h => ?_,
    fun on hs => hrun hs⟩
  · exact (hrun hs).trans (runXmtDone_of_allowed h)
  · refine (hrun hs).trans ((runRcvDone_of_armed (s := { s with script := rest }) ha hlen fun _ => horder).trans ?_)
    rw [storeBytes_echo_eq]
    rfl
  · refine (hrun hs).trans ((runRcvDone_of_armed (s := { s with script := rest }) ha hlen nofun).trans ?_)
    rw [storeBytes_rspbuf_eq]
    rfl
  · exact ⟨_, _, _, (hrun hs).trans (runRcvErr_of_armed (s := { s with script := rest }) ha)⟩
  · exact ⟨_, _, (hrun hs).trans (runRcvErr_of_armed (s := { s with script := rest }) ha)⟩
  · exact (hrun hs).trans (runEdge_of_allowed h)
  · exact (hrun hs).trans (runRcvDone_of_unarmed bytes ha hc)
  · exact (hrun hs).trans (runRcvErr_of_unarmed ha hc)
  · exact (hrun hs).trans (runExpire_of_allowed h)

/-! ### Pseudo-operations (R108) -/

/-- Taking a line and putting it back before the rest is the script as it was: `RUN` stays next. -/
theorem expand_of_script {s : State} {l : Line} {rest : List Line} (hs : s.script = l :: rest) :
    expand [l] { s with script := rest } = s := by
  rw [expand, List.singleton_append, ← hs]

/-- `RUN` dispatches CTL first (R70, R108). -/
theorem runRun_of_ctlq {s : State} {e : CtlEvt} {later : List CtlEvt} (hq : s.ctlq = e :: later) :
    runRun s = exec (ctlEvtInstr e) { expand [.run] s with ctlq := later } := by
  rw [runRun, if_pos (by simp [hq])]
  exact dispatchCtlHead_of_cons hq

theorem runRun_of_xmtq {s : State} {e : XmtEvt} {later : List XmtEvt} (hc : s.ctlq = []) (hq : s.xmtq = e :: later) :
    runRun s = exec (xmtEvtInstr e) { expand [.run] s with xmtq := later } := by
  rw [runRun, if_neg (by simp [hc]), if_pos (by simp [hq])]
  exact dispatchXmtHead_of_cons hq

theorem runRun_of_empty {s : State} (hc : s.ctlq = []) (hq : s.xmtq = []) : runRun s = .next s := by
  rw [runRun, if_neg (by simp [hc]), if_neg (by simp [hq])]

/-- Settles O40: an expansion is read off its line; `RUN` puts itself back before the dispatch. -/
theorem pseudoOperationsExpand : Obligations.PseudoOperationsExpand := by
  intro s rest
  refine ⟨fun hs => step_of_script hs, fun _ _ hs => step_of_script hs, fun _ hs => step_of_script hs,
    fun hs => step_of_script hs, fun _ hs => step_of_script hs, fun _ hs => step_of_script hs,
    fun hs => ⟨fun e later hq => ?_, fun e later hc hq => ?_, fun hc hq => ?_⟩⟩
  · have hrun := (step_of_script hs).trans (runRun_of_ctlq (s := { s with script := rest }) hq)
    rwa [expand_of_script hs] at hrun
  · have hrun := (step_of_script hs).trans (runRun_of_xmtq (s := { s with script := rest }) hc hq)
    rwa [expand_of_script hs] at hrun
  · exact (step_of_script hs).trans (runRun_of_empty hc hq)

end Sys2Proof.Machine
end

section
/-! PROOFS of the statements about the classifier (40_classifier.md): each class of R99 as the rule of the spec it stands for,
one equation per rule of `ClassifyAnswer`, and the rules of `ClassifyRepeat` as one equivalence. -/

namespace Sys2Proof.Machine

/-! ### Addresses and ranges (R92, R96) -/

@[simp] theorem isIndividual_iff (a : Byte) : isIndividual a = true ↔ a.getLsbD 7 = false := by simp [isIndividual]

@[simp] theorem isBroadcastCmd_iff (a : Byte) : isBroadcastCmd a = true ↔ a = 0xFF := beq_iff_eq

@[simp] theorem inRange_iff (lo hi b : Byte) : inRange lo hi b = true ↔ lo ≤ b ∧ b ≤ hi := by simp [inRange]

/-- Individual addresses are the lower half of the bytes (R91). -/
theorem le_of_isIndividual {a : Byte} (h : isIndividual a = true) : a ≤ 0x7F#8 := by
  have hmsb : a.msb = false := (BitVec.msb_eq_getLsbD_last a).trans ((isIndividual_iff a).mp h)
  have hlt : 2 * a.toNat < 2 ^ 8 := BitVec.msb_eq_false_iff_two_mul_lt.mp hmsb
  bv_omega

/-! ### Command classes (R99) -/

section
variable (o : Opc) (a d : Byte)

theorem spcMaybe_iff : spcMaybe o a d = true ↔ (a = o.spcCompare ∧ d = 0) ∨ a = o.spcWriteMemoryLocation := by
  simp [spcMaybe]

theorem spcRequired_iff : spcRequired o a d = true ↔ (a = o.spcQueryShortAddr ∧ d = 0) ∨ a = o.spcVerifyShortAddr := by
  simp [spcRequired]

theorem spcNone_iff : spcNone o a = true ↔
    a ∈ [o.spcInitialise, o.spcRandomise, o.spcWithdraw, o.spcSearchaddrh, o.spcSearchaddrm, o.spcSearchaddrl,
      o.spcProgramShortAddr, o.spcEnableDeviceType, o.spcDtr, o.spcDtr1, o.spcDtr2] := by
  simp [spcNone, or_assoc]

theorem qRequired_iff : qRequired o d = true ↔
    d = o.cmdQueryStatus ∨
    (o.cmdQueryVersionNumber ≤ d ∧ d ≤ o.cmdQueryPhysMinLevel) ∨
    (o.cmdQueryContentDtr1 ≤ d ∧ d ≤ o.cmdQueryContentDtr2) ∨
    (o.cmdQueryActualLevel ≤ d ∧ d ≤ o.cmdQueryFadeRate) ∨
    (o.cmdQuerySceneLevel ≤ d ∧ d ≤ o.cmdReadMemoryLocation) ∨
    (o.cmdQueryGearType ≤ d ∧ d ≤ o.cmdQueryExtVersionNumber) := by
  simp [qRequired, or_assoc]

theorem qMaybe_iff : qMaybe o d = true ↔
    (o.cmdQueryControlGearPresent ≤ d ∧ d ≤ o.cmdQueryMissingShortAddr) ∨ d = o.cmdQueryPowerFailure := by
  simp [qMaybe]

theorem rptRange_iff : rptRange o d = true ↔
    (o.cmdReset ≤ d ∧ d ≤ o.cmdEnableWriteMemory) ∨
    (o.cmdReferenceSystemPower ≤ d ∧ d ≤ o.cmdSelectDimmingCurve) := by
  simp [rptRange]

end

/-! ### The access check on a query (R135, R136, R285) -/

theorem queryAllowed_iff (a : Byte) (dbg : Bool) : queryAllowed a dbg = true ↔ a.getLsbD 7 = false ∨ dbg = true := by
  simp [queryAllowed]

theorem queryAnswer_of_allowed (x : AnswerExpectation) {a : Byte} {dbg : Bool} (h : queryAllowed a dbg = true) :
    queryAnswer x a dbg = x := by
  unfold queryAnswer
  rcases Bool.or_eq_true_iff.mp h with hind | hdbg
  · exact if_pos hind
  · simp [hdbg]

theorem queryAnswer_of_refused (x : AnswerExpectation) {a : Byte} {dbg : Bool} (h : queryAllowed a dbg = false) :
    queryAnswer x a dbg = .error := by
  obtain ⟨hind, hdbg⟩ := Bool.or_eq_false_iff.mp h
  simp [queryAnswer, hind, hdbg]

/-! ### `ClassifyAnswer`, one equation per rule (R132 to R138) -/

section
variable {o : Opc} {a d : Byte} {dbg : Bool}

theorem classifyAnswer_of_not_isCmd (hcmd : isCmd a = false) : classifyAnswer o a d dbg = .none := by
  simp [classifyAnswer, hcmd]

theorem classifyAnswer_of_spcMaybe (hcmd : isCmd a = true) (hmaybe : spcMaybe o a d = true) :
    classifyAnswer o a d dbg = .maybe := by
  simp [classifyAnswer, hcmd, hmaybe]

theorem classifyAnswer_of_spcRequired (hcmd : isCmd a = true) (hmaybe : spcMaybe o a d = false)
    (hrequired : spcRequired o a d = true) : classifyAnswer o a d dbg = .required := by
  simp [classifyAnswer, hcmd, hmaybe, hrequired]

theorem classifyAnswer_of_spcNone (hcmd : isCmd a = true) (hmaybe : spcMaybe o a d = false)
    (hrequired : spcRequired o a d = false) (hnone : spcNone o a = true) : classifyAnswer o a d dbg = .none := by
  simp [classifyAnswer, hcmd, hmaybe, hrequired, hnone]

/-- A command that is none of the special ones is classified by its data byte alone, as a query or as nothing. -/
theorem classifyAnswer_of_not_special (hcmd : isCmd a = true) (hmaybe : spcMaybe o a d = false)
    (hrequired : spcRequired o a d = false) (hnone : spcNone o a = false) :
    classifyAnswer o a d dbg =
      if qRequired o d then queryAnswer .required a dbg else if qMaybe o d then queryAnswer .maybe a dbg else .none := by
  simp [classifyAnswer, hcmd, hmaybe, hrequired, hnone]

/-- The only answers that can be a refusal are those of a query, so a refusal means that its access check failed. -/
theorem not_queryAllowed_of_classifyAnswer_error (h : classifyAnswer o a d dbg = .error) : queryAllowed a dbg = false := by
  refine Bool.eq_false_iff.mpr fun hallowed => ?_
  have hquery (x : AnswerExpectation) : queryAnswer x a dbg = x := queryAnswer_of_allowed x hallowed
  unfold classifyAnswer at h
  rw [hquery, hquery] at h
  split_ifs at h

end

/-- Settles O5: the rules of the spec are the classes of R99, and each has its equation. -/
theorem classifyAnswerByRules : Obligations.ClassifyAnswerByRules := by
  intro o addr data dbg maybeSpecial requiredSpecial silentSpecial requiredQuery maybeQuery command allowed
  have hcommand : command ↔ isCmd addr = true := Iff.rfl
  have hmaybe : maybeSpecial ↔ spcMaybe o addr data = true := (spcMaybe_iff o addr data).symm
  have hrequired : requiredSpecial ↔ spcRequired o addr data = true := (spcRequired_iff o addr data).symm
  have hsilent : silentSpecial ↔ spcNone o addr = true := (spcNone_iff o addr).symm
  have hqRequired : requiredQuery ↔ qRequired o data = true := (qRequired_iff o data).symm
  have hqMaybe : maybeQuery ↔ qMaybe o data = true := (qMaybe_iff o data).symm
  have hallowed : allowed ↔ queryAllowed addr dbg = true := (queryAllowed_iff addr dbg).symm
  rw [hcommand, hmaybe, hrequired, hsilent, hqRequired, hqMaybe, hallowed]
  simp only [Bool.not_eq_true]
  refine ⟨classifyAnswer_of_not_isCmd, classifyAnswer_of_spcMaybe, classifyAnswer_of_spcRequired,
    classifyAnswer_of_spcNone, fun hc hm hr hn hq => ?_, fun hc hm hr hn hq hy => ?_, fun hc hm hr hn hq hy => ?_⟩
  all_goals rw [classifyAnswer_of_not_special hc hm hr hn]
  · rw [if_pos hq]
    exact ⟨queryAnswer_of_allowed .required, queryAnswer_of_refused .required⟩
  · rw [if_neg (Bool.eq_false_iff.mp hq), if_pos hy]
    exact ⟨queryAnswer_of_allowed .maybe, queryAnswer_of_refused .maybe⟩
  · rw [if_neg (Bool.eq_false_iff.mp hq), if_neg (Bool.eq_false_iff.mp hy)]

/-! ### `ClassifyRepeat` (R139 to R143) -/

theorem classifyRepeat_iff (o : Opc) (a d : Byte) :
    classifyRepeat o a d = true ↔
      a = o.spcInitialise ∨ (d = 0 ∧ a = o.spcRandomise) ∨
      ((isBroadcastCmd a = true ∨ (isCmd a = true ∧ isIndividual a = true)) ∧ rptRange o d = true) := by
  simp only [classifyRepeat, Bool.if_true_left, Bool.or_false, Bool.or_eq_true, Bool.and_eq_true, beq_iff_eq,
    decide_eq_true_eq]
  rfl

/-- Settles O6. -/
theorem classifyRepeatByRules : Obligations.ClassifyRepeatByRules := by
  intro o addr data
  rw [classifyRepeat_iff, isBroadcastCmd_iff, isIndividual_iff, rptRange_iff]
  rfl

/-! ### The default constants (R98) -/

/-- The special commands lie from DTR to WRITE MEMORY LOCATION: above every individual and group address, below broadcast. -/
theorem not_special_default {a : Byte} (d : Byte) (hout : ¬(0xA3#8 ≤ a ∧ a ≤ 0xC7#8)) :
    spcMaybe defaultOpc a d = false ∧ spcRequired defaultOpc a d = false ∧ spcNone defaultOpc a = false := by
  rw [← Bool.not_eq_true, ← Bool.not_eq_true, ← Bool.not_eq_true, spcMaybe_iff, spcRequired_iff, spcNone_iff]
  simp only [defaultOpc, List.mem_cons, List.not_mem_nil, or_false]
  bv_omega

/-- No data byte of a repeat range is that of a query. -/
theorem not_query_of_rptRange_default {d : Byte} (h : rptRange defaultOpc d = true) :
    qRequired defaultOpc d = false ∧ qMaybe defaultOpc d = false := by
  rw [← Bool.not_eq_true, ← Bool.not_eq_true, qRequired_iff, qMaybe_iff]
  rw [rptRange_iff] at h
  simp only [defaultOpc] at h ⊢
  bv_omega

/-- Settles O7: a refusal is a failed access check; a group or broadcast address is none of the special commands. -/
theorem refusalsByAddress : Obligations.RefusalsByAddress := by
  refine ⟨fun o addr data dbg hind herr => ?_, fun addr data haddr hquery => ?_⟩
  · have hallowed : queryAllowed addr dbg = true := (queryAllowed_iff addr dbg).mpr (.inl hind)
    exact Bool.eq_false_iff.mp (not_queryAllowed_of_classifyAnswer_error herr) hallowed
  · have hcmd : isCmd addr = true := by
      rcases haddr with ⟨_, _, hodd⟩ | rfl
      · exact hodd
      · rfl
    have hout : ¬(0xA3#8 ≤ addr ∧ addr ≤ 0xC7#8) := by bv_omega
    have hrefused : queryAllowed addr false = false := by
      refine Bool.eq_false_iff.mpr fun hallowed => ?_
      have hle := le_of_isIndividual ((Bool.or_false _).symm.trans hallowed)
      bv_omega
    obtain ⟨hmaybe, hrequired, hnone⟩ := not_special_default data hout
    rw [classifyAnswer_of_not_special hcmd hmaybe hrequired hnone, if_pos hquery, queryAnswer_of_refused _ hrefused]

/-- Settles O8, by the rule that repeats the frame: R140 and R141 name silent special commands, and R142 a command that is
not special, with a data byte that is no query. -/
theorem repeatedFrameExpectsNoAnswer : Obligations.RepeatedFrameExpectsNoAnswer := by
  intro addr data dbg hrepeat
  rcases (classifyRepeat_iff _ _ _).mp hrepeat with rfl | ⟨_, rfl⟩ | ⟨haddr, hrange⟩
  · exact classifyAnswer_of_spcNone rfl rfl rfl rfl
  · exact classifyAnswer_of_spcNone rfl rfl rfl rfl
  · obtain ⟨hqRequired, hqMaybe⟩ := not_query_of_rptRange_default hrange
    have ⟨hcmd, hout⟩ : isCmd addr = true ∧ ¬(0xA3#8 ≤ addr ∧ addr ≤ 0xC7#8) := by
      rcases haddr with hbroadcast | ⟨hcmd, hind⟩
      · obtain rfl := (isBroadcastCmd_iff addr).mp hbroadcast
        decide
      · have hle := le_of_isIndividual hind
        exact ⟨hcmd, by bv_omega⟩
    obtain ⟨hmaybe, hrequired, hnone⟩ := not_special_default data hout
    simp [classifyAnswer_of_not_special hcmd hmaybe hrequired hnone, hqRequired, hqMaybe]

end Sys2Proof.Machine
end

section
/-! PROOFS of the statements about the bus monitor (41_busmonitor.md): the result of its tick, its invariant, and what a bus
flagged bad keeps an idle XMT from doing. -/

namespace Sys2Proof.Machine

/-! ### The tick (R161) -/

@[simp] theorem monCntNext_good (threshold cnt : BitVec 4) : monCntNext threshold cnt false = 0#4 := rfl

theorem monCntNext_bad_of_lt {threshold cnt : BitVec 4} (h : cnt < threshold) :
    monCntNext threshold cnt true = cnt + 1#4 := if_pos h

/-- The counter saturates. -/
theorem monCntNext_bad_of_not_lt {threshold cnt : BitVec 4} (h : ¬cnt < threshold) :
    monCntNext threshold cnt true = cnt := if_neg h

@[simp] theorem monBadNext_good (threshold cntNext : BitVec 4) (bad : Bool) :
    monBadNext threshold cntNext bad false = false := rfl

/-- A bad sample sets the flag at the threshold and never clears it. -/
@[simp] theorem monBadNext_bad_iff (threshold cntNext : BitVec 4) (bad : Bool) :
    monBadNext threshold cntNext bad true = true ↔ cntNext = threshold ∨ bad = true := by
  cases bad <;> simp [monBadNext]

theorem monBadNext_bad_of_eq {threshold cntNext : BitVec 4} (bad : Bool) (h : cntNext = threshold) :
    monBadNext threshold cntNext bad true = true := (monBadNext_bad_iff ..).mpr (.inl h)

theorem monBadNext_bad_of_ne {threshold cntNext : BitVec 4} (bad : Bool) (h : cntNext ≠ threshold) :
    monBadNext threshold cntNext bad true = bad := by
  simp [monBadNext, h]

theorem exec_montick (sample : Bool) (s : State) : exec (.montick sample) s = .next (monitorTick sample s) := rfl

/-- Settles O12 (`monitorTick` itself is the model's function): the case of the count decides the counter's new value, and
that value the flag. -/
theorem monitorTick_spec : Obligations.MonitorTick := by
  intro s
  simp only [exec_montick, monitorTick]
  refine ⟨rfl, fun hlt hne => ?_, fun hlt heq => ?_, fun heq => ?_, fun hgt => ?_⟩
  · rw [monCntNext_bad_of_lt hlt, monBadNext_bad_of_ne _ hne]
  · rw [monCntNext_bad_of_lt hlt, monBadNext_bad_of_eq _ heq]
  · rw [monCntNext_bad_of_not_lt (by simp [heq]), monBadNext_bad_of_eq _ heq]
  · have hle : ¬s.monCnt < s.params.monThreshold := by bv_omega
    have hne : s.monCnt ≠ s.params.monThreshold := by bv_omega
    rw [monCntNext_bad_of_not_lt hle, monBadNext_bad_of_ne _ hne]

/-! ### The invariant (R164) -/

/-- A sample takes the counter nowhere above the threshold. -/
theorem monCntNext_le {threshold cnt : BitVec 4} (sample : Bool) (h : cnt ≤ threshold) :
    monCntNext threshold cnt sample ≤ threshold := by
  cases sample with
  | false => rw [monCntNext_good]; bv_omega
  | true =>
    by_cases hlt : cnt < threshold
    · rw [monCntNext_bad_of_lt hlt]; bv_omega
    · rwa [monCntNext_bad_of_not_lt hlt]

/-- A good sample clears both, and the threshold is not zero; a bad one sets the flag on reaching the threshold, and a flag
already set means that the counter is there and stays. -/
theorem monitorInv_monitorTick {s : State} (sample : Bool) (hne : s.params.monThreshold ≠ 0#4) (h : monitorInv s) :
    monitorInv (monitorTick sample s) := by
  obtain ⟨hle, hbad⟩ := h
  refine ⟨monCntNext_le sample hle, ?_⟩
  cases sample with
  | false => simp [hne.symm]
  | true =>
    have hstays (hb : s.monBad = true) :
        monCntNext s.params.monThreshold s.monCnt true = s.params.monThreshold := by
      have heq := hbad.mp hb
      rw [monCntNext_bad_of_not_lt (by simp [heq]), heq]
    exact (monBadNext_bad_iff ..).trans (or_iff_left_of_imp hstays)

theorem KeepsBusHealth.monitorInv {s t : State} (hk : KeepsBusHealth s t) (h : monitorInv s) : monitorInv t := by
  simpa only [Machine.monitorInv, hk.params, hk.monCnt, hk.monBad] using h

/-- Settles O13: only the tick writes the monitor's registers. -/
theorem monitorInvariantKept : Obligations.MonitorInvariantKept := by
  intro s t ⟨_, hne⟩ h hstep
  rcases step_tick_or_keepsBusHealth hstep with ⟨_, rest, sample, _, rfl⟩ | hk
  · exact monitorInv_monitorTick (s := { s with script := rest }) sample hne h
  · exact hk.monitorInv h

/-! ### A bad bus in Idle (R165, R178) -/

/-- The actions that start something: a transmission, a receive or the timer (R12). -/
def startsEngine : Action → Bool
  | .manTransmit _ _ | .manReceive _ _ | .timerOn _ => true
  | _ => false

/-- No transmission, receive or timer runs that did not before, and no action starts one. -/
structure StartsNothing (s t : State) : Prop where
  txBusy : t.txBusy = true → s.txBusy = true
  rxArmed : t.rxArmed ≠ none → t.rxArmed = s.rxArmed
  tmrArmed : t.tmrArmed = true → s.tmrArmed = true
  tmrMs : t.tmrMs = s.tmrMs
  trace : ∃ acts, t.trace = s.trace ++ acts ∧ ∀ a ∈ acts, startsEngine a = false

theorem StartsNothing.of_kept {s t : State} (htx : t.txBusy = s.txBusy) (hrx : t.rxArmed = s.rxArmed)
    (harmed : t.tmrArmed = s.tmrArmed) (hms : t.tmrMs = s.tmrMs) (acts : List Action) (htrace : t.trace = s.trace ++ acts)
    (hacts : ∀ a ∈ acts, startsEngine a = false) : StartsNothing s t :=
  ⟨fun h => htx.symm.trans h, fun _ => hrx, fun h => harmed.symm.trans h, hms, acts, htrace, hacts⟩

/-- On a bad bus an idle XMT ignores an event or fails the transaction at once (R178). -/
theorem XmtStep.eq_of_idle_bad {s t : State} {e : XmtEvt} (h : XmtStep s e t) (hb : s.monBad = true)
    (hx : s.xmtState = .idle) : t = s ∨ t = postCtl .xactdone (setStatus .busMonBad s) := by
  cases h with
  | ignored => exact .inl rfl
  | startBad => exact .inr rfl
  | startIllegal _ hgood | startFrame _ hgood => rw [hb] at hgood; contradiction
  | transmitDone hs | transmitError hs | transmitTimeout hs | echoAnswer hs | echoNoAnswer hs | echoBad hs | echoError hs
  | echoTimeout hs | edgeSeen hs | answer hs | answerError hs | answerTimeout hs | frameAgain hs | frameEnd hs
  | backFrameEnd hs => rw [hx] at hs; contradiction

theorem XmtStep.keepsXmt_of_idle_bad {s t : State} {e : XmtEvt} (h : XmtStep s e t) (hb : s.monBad = true)
    (hx : s.xmtState = .idle) : KeepsXmt s t := by
  rcases h.eq_of_idle_bad hb hx with rfl | rfl <;> exact ⟨rfl, rfl, rfl, rfl⟩

/-- Failing at once only reports, whatever script and queue the event leaves. -/
theorem XmtStep.startsNothing_of_idle_bad {s t : State} {ls : List Line} {later : List XmtEvt} {e : XmtEvt}
    (h : XmtStep { s with script := ls, xmtq := later } e t) (hb : s.monBad = true) (hx : s.xmtState = .idle) :
    StartsNothing s t := by
  rcases h.eq_of_idle_bad hb hx with rfl | rfl
  · exact .of_kept rfl rfl rfl rfl [] (by simp) (by simp)
  · exact .of_kept rfl rfl rfl rfl [.postCtl .xactdone] rfl (by simp [startsEngine])

/-- The actions of a completion, with or without a re-post (R235). -/
theorem complete_extends_trace (s : State) :
    ∃ acts, (complete s).trace = s.trace ++ acts ∧ ∀ a ∈ acts, startsEngine a = false := by
  by_cases hr : s.params.ctlBusyEnq = .defer ∧ s.q ≠ []
  · exact ⟨[.outputRcvMsg s.cur, .postCtl .msgenq], by simp [complete_of_repost _ hr], by simp [startsEngine]⟩
  · exact ⟨[.outputRcvMsg s.cur], by simp [complete_of_not_repost _ hr], by simp [startsEngine]⟩

/-- CTL starts a transaction only by posting to XMT (R233), whatever script and queue the event leaves. -/
theorem CtlStep.startsNothing {s t : State} {ls : List Line} {later : List CtlEvt} {e : CtlEvt}
    (h : CtlStep { s with script := ls, ctlq := later } e t) : StartsNothing s t := by
  cases h with
  | dequeue m rest =>
    exact .of_kept rfl rfl rfl rfl [.queueGet m, .postXmt .start] rfl (by simp [startsEngine])
  | deliver =>
    obtain ⟨acts, htrace, hacts⟩ := complete_extends_trace { s with script := ls, ctlq := later }
    exact .of_kept (by simp) (by simp) (by simp) (by simp) acts htrace hacts
  | nothingQueued | busy | ignored => exact .of_kept rfl rfl rfl rfl [] (by simp) (by simp)

/-- On a bad bus with XMT idle no step starts anything: XMT fails at once, CTL and the host only post, and a line of the
environment ends a transmission, a receive or the timer. -/
theorem step_startsNothing_of_idle_bad {s t : State} (h : step s = .next t) (hb : s.monBad = true)
    (hx : s.xmtState = .idle) : StartsNothing s t := by
  cases step_cases s t h with
  | xmt _ _ _ _ _ _ h => exact h.startsNothing_of_idle_bad hb hx
  | xmtOp _ _ _ _ _ _ h => exact XmtStep.startsNothing_of_idle_bad (later := s.xmtq) h hb hx
  | ctl _ _ _ _ _ _ h => exact h.startsNothing
  | ctlOp _ _ _ _ _ _ h => exact CtlStep.startsNothing (later := s.ctlq) h
  | tick _ _ sample => exact .of_kept rfl rfl rfl rfl [.getBusState sample] rfl (by simp [startsEngine])
  | accepted _ _ _ m =>
    exact .of_kept rfl rfl rfl rfl [.queuePut m true, .postCtl .msgenq] rfl (by simp [startsEngine])
  | full _ _ m => exact .of_kept rfl rfl rfl rfl [.queuePut m false] rfl (by simp [startsEngine])
  | _ => exact ⟨by simp, by simp, by simp, by simp, [], by simp, by simp⟩

/-- XMT stays in Idle with its latches as they were: the only event it answers is the `START` that fails. -/
theorem step_keepsXmt_of_idle_bad {s t : State} (h : step s = .next t) (hb : s.monBad = true)
    (hx : s.xmtState = .idle) : KeepsXmt s t := by
  rcases step_xmtEvent_or_keepsXmt h with ⟨_, _, _, hs⟩ | hk
  · obtain ⟨hstate, hans, hrpt, hedge⟩ := hs.keepsXmt_of_idle_bad hb hx
    exact ⟨hstate, hans, hrpt, hedge⟩
  · exact hk

/-- Settles O60. -/
theorem idleBadBusStartsNothing : Obligations.IdleBadBusStartsNothing := by
  intro s t hb hx h
  obtain ⟨hstate, hans, hrpt, _⟩ := step_keepsXmt_of_idle_bad h hb hx
  obtain ⟨htx, hrx, harmed, hms, acts, htrace, hacts⟩ := step_startsNothing_of_idle_bad h hb hx
  have hno {a : Action} (ha : startsEngine a = true) : a ∉ acts := fun hm => by simp [hacts a hm] at ha
  exact ⟨hstate.trans hx, htx, hrx, harmed, hms, hans, hrpt, acts, htrace, fun _ _ => hno rfl, fun _ _ => hno rfl,
    fun _ => hno rfl⟩

end Sys2Proof.Machine
end

section
/-! PROOFS of the statements about XMT (42_xmt.md): that every wait is timed and every transaction runs down, what the latched
flags exclude and which steps transmit; and the result of each rule, read off the cases of a dispatch. -/

namespace Sys2Proof.Machine

/-! ### Every wait is timed (R200, R281) -/

/-- An event that leaves XMT busy arms the timer, or XMT was busy, the event is no expiry, and timer and queue are as they
were. -/
theorem XmtStep.timed {s t : State} {e : XmtEvt} (h : XmtStep s e t) (hx : t.xmtState ≠ .idle) :
    t.tmrArmed = true ∨
      (s.xmtState ≠ .idle ∧ e ≠ .timeout ∧ t.tmrArmed = s.tmrArmed ∧ t.xmtq = s.xmtq) := by
  cases h with
  | startFrame | echoAnswer | echoNoAnswer | answer | answerError | frameAgain => exact .inl (by simp)
  | ignored _ hrow => exact .inr ⟨hx, ((XmtStep.ignored _ hrow).stays hx rfl).1, rfl, rfl⟩
  | transmitDone hs | edgeSeen hs => exact .inr ⟨by simp [hs], nofun, rfl, rfl⟩
  | startBad hs | startIllegal hs => exact absurd hs hx
  | transmitError | transmitTimeout | echoBad | echoError | echoTimeout | answerTimeout | frameEnd | backFrameEnd =>
    exact absurd rfl hx

/-- An event of XMT keeps the wait timed if taking it from the queue took no other expiry. -/
theorem timerInv_xmt {s t : State} {ls : List Line} {later : List XmtEvt} {e : XmtEvt}
    (h : XmtStep { s with script := ls, xmtq := later } e t) (hi : timerInv s)
    (hlater : e ≠ .timeout → .timeout ∈ s.xmtq → .timeout ∈ later) : timerInv t := by
  intro hx
  rcases h.timed hx with harmed | ⟨hsx, hne, harmed, hq⟩
  · exact .inl harmed
  · exact (hi hsx).imp harmed.trans fun hmem => by rw [hq]; exact hlater hne hmem

/-- What leaves XMT's state and the timer alone, and takes nothing from the queue, keeps the wait timed. -/
theorem timerInv_of_kept {s t : State} (hx : t.xmtState = s.xmtState) (harmed : t.tmrArmed = s.tmrArmed)
    (hq : s.xmtq <+: t.xmtq) (hi : timerInv s) : timerInv t := fun hne =>
  (hi (hx ▸ hne)).imp harmed.trans fun hmem => hq.subset hmem

/-- CTL leaves XMT's state and the timer alone and only posts to XMT (R233). -/
theorem timerInv_ctl {s t : State} {e : CtlEvt} (h : CtlStep s e t) (hi : timerInv s) : timerInv t := by
  obtain ⟨more, hq⟩ := h.effect.2
  exact timerInv_of_kept h.keepsXmt.xmtState (by cases h <;> simp) ⟨more, hq.symm⟩ hi

/-- Settles O45: a state other than Idle is entered with the timer armed, and the expiry that ends the arming stays queued until
it is dispatched, which ends the wait. -/
theorem everyWaitIsTimed : Obligations.EveryWaitIsTimed := by
  intro s t hi h
  cases step_cases s t h with
  | xmt _ _ _ _ _ hq h =>
    exact timerInv_xmt h hi fun hne hmem => (List.mem_cons.mp (hq ▸ hmem)).resolve_left hne.symm
  | xmtOp _ _ _ _ _ _ h => exact timerInv_xmt (later := s.xmtq) h hi fun _ hmem => hmem
  | ctl _ _ _ _ _ _ h | ctlOp _ _ _ _ _ _ h => exact timerInv_ctl h hi
  | expire => exact fun _ => .inr (by simp)
  | _ => exact timerInv_of_kept (by simp) (by simp) (by simp) hi

/-! ### A transaction runs down (R170, R194, R200) -/

theorem xmtRank_of_idle {s : State} (hs : s.xmtState = .idle) : xmtRank s = 0 := by simp only [xmtRank, hs]

theorem xmtRank_pos {s : State} (hx : s.xmtState ≠ .idle) : 0 < xmtRank s := by
  cases hs : s.xmtState with
  | idle => exact absurd hs hx
  | _ => simp [xmtRank, hs]

/-- Ending the transaction lowers the rank to that of Idle. -/
theorem xmtRank_lt_of_idle {s t : State} (ht : t.xmtState = .idle) (hx : s.xmtState ≠ .idle) : xmtRank t < xmtRank s :=
  xmtRank_of_idle ht ▸ xmtRank_pos hx

/-- A busy XMT that leaves its state goes down in rank; the second transmission, which goes back to WaitXmtDone, spends the
repeat flag that its rank counted. -/
theorem XmtStep.stays_or_rank_lt {s t : State} {e : XmtEvt} (h : XmtStep s e t) (hx : s.xmtState ≠ .idle) :
    (t.xmtState = s.xmtState ∧ t.rpt = s.rpt) ∨ xmtRank t < xmtRank s := by
  cases h with
  | startBad hs | startIllegal hs | startFrame hs => exact absurd hs hx
  | ignored | edgeSeen => exact .inl ⟨rfl, rfl⟩
  | transmitError | transmitTimeout | echoBad | echoError | echoTimeout | answerTimeout | frameEnd | backFrameEnd =>
    exact .inr (xmtRank_lt_of_idle rfl hx)
  | transmitDone hs | echoAnswer hs | echoNoAnswer hs => exact .inr (by simp [xmtRank, hs])
  | answer hs | answerError hs =>
    right
    calc xmtRank _
      _ < 2 := by simp [xmtRank]
      _ ≤ xmtRank s := by simp [xmtRank, hs]
  | frameAgain hs hr => exact .inr (by simp [xmtRank, hs, hr])

/-- Settles O46. -/
theorem transactionRankDecreases : Obligations.TransactionRankDecreases := by
  intro s t hx h
  rcases step_xmtEvent_or_keepsXmt h with ⟨_, _, _, hs⟩ | hk
  · exact hs.stays_or_rank_lt hx
  · exact .inl ⟨hk.xmtState, hk.rpt⟩

/-! ### What the latched flags exclude (R145, R170, R185) -/

/-- An event that leaves XMT busy found it busy, or latched the classification of a legal frame (R177). -/
theorem XmtStep.busy_or_classified {s t : State} {e : XmtEvt} (h : XmtStep s e t) (hx : t.xmtState ≠ .idle) :
    s.xmtState ≠ .idle ∨ (t.xmtState = .waitXmtDone ∧ t.ans = (classifyCurrent s).ans ∧
      t.rpt = (classifyCurrent s).rpt ∧ (classifyCurrent s).ans ≠ .error) := by
  cases h with
  | startFrame _ _ ha => exact .inr ⟨by simp, by simp, by simp, ha⟩
  | startBad hs | startIllegal hs => exact absurd hs hx
  | ignored => exact .inl hx
  | transmitDone hs | echoAnswer hs | echoNoAnswer hs | edgeSeen hs | answer hs | answerError hs | frameAgain hs =>
    exact .inl (by simp [hs])
  | transmitError | transmitTimeout | echoBad | echoError | echoTimeout | answerTimeout | frameEnd | backFrameEnd =>
    exact absurd rfl hx

/-- WaitRcvDone is entered only with an answer expected (R185). -/
theorem XmtStep.waitRcvDone {s t : State} {e : XmtEvt} (h : XmtStep s e t) (hx : t.xmtState = .waitRcvDone) :
    s.xmtState = .waitRcvDone ∨ answerExpected s.ans = true := by
  cases h with
  | ignored | edgeSeen | startBad | startIllegal => exact .inl hx
  | echoAnswer _ _ ha => exact .inr ha
  | _ => exact absurd hx (by simp)

theorem answerInv_xmt {s t : State} {e : XmtEvt} (h : XmtStep s e t) (hi : answerInv s) : answerInv t := by
  obtain ⟨hlegal, hexpected⟩ := hi
  refine ⟨fun hx => ?_, fun hx => ?_⟩
  · rcases h.busy_or_classified hx with hs | ⟨_, hans, _, hne⟩
    · rw [(h.ans_rpt_of_busy hs).1]; exact hlegal hs
    · rwa [hans]
  · rcases h.busy_or_classified (by simp [hx]) with hs | ⟨hdone, _⟩
    · rw [(h.ans_rpt_of_busy hs).1]; exact (h.waitRcvDone hx).elim hexpected id
    · rw [hx] at hdone; contradiction

/-- A frame that is classified as to be repeated is classified as expecting no answer (R145). -/
theorem repeatInv_xmt {s t : State} {e : XmtEvt} (h : XmtStep s e t) (hi : repeatInv s) : repeatInv t := by
  intro hopc hx hrpt
  rw [h.keepsBusHealth.params] at hopc
  rcases h.busy_or_classified hx with hs | ⟨_, hans, hclass, _⟩
  · obtain ⟨hans, hkept | hcleared⟩ := h.ans_rpt_of_busy hs
    · rw [hans]; exact hi hopc hs (hkept ▸ hrpt)
    · rw [hcleared] at hrpt; contradiction
  · rw [hclass, classifyCurrent_rpt, hopc] at hrpt
    rw [hans, classifyCurrent_ans, hopc]
    exact repeatedFrameExpectsNoAnswer _ _ _ hrpt

/-- Settles O50. -/
theorem latchedFlagsInvariant : Obligations.LatchedFlagsInvariant := by
  intro s t ha hr h
  rcases step_xmtEvent_or_keepsXmt h with ⟨_, _, _, hs⟩ | hk
  · exact ⟨answerInv_xmt hs ha, repeatInv_xmt hs hr⟩
  · have hparams : t.params = s.params := (busHealthHasOneWriter s t h).1
    simpa only [answerInv, repeatInv, hk.xmtState, hk.ans, hk.rpt, hparams] using And.intro ha hr

/-! ### Which steps transmit (R173, R194, R332) -/

/-- Whether an action puts a frame on the bus. -/
def transmits : Action → Bool
  | .manTransmit _ _ => true
  | _ => false

/-- The actions by which a frame is started (R173). -/
def startActions (s : State) : List Action :=
  [.manReceive .echo s.params.frameLen,
    .manTransmit ([s.cur.addr, s.cur.data].take s.params.frameLen) s.params.frameLen,
    .timerOn s.params.tEchoMs]

theorem startFrame_trace_eq (s : State) : (startFrame s).trace = s.trace ++ startActions s := by
  rw [startFrame_eq, startActions]

/-- The trace grows by actions that transmit nothing, or by those of a frame that XMT starts in Idle, on a good bus and for a
legal frame, or once more in WaitFrameTime by clearing the repeat flag. -/
inductive TransmissionAccounted (s t : State) : Prop
  | nothing (acts : List Action) (htrace : t.trace = s.trace ++ acts) (hacts : ∀ a ∈ acts, transmits a = false)
  | frame (htrace : t.trace = s.trace ++ startActions s) (ht : t.xmtState = .waitXmtDone)
      (horigin : (s.xmtState = .idle ∧ s.monBad = false ∧ t.ans ≠ .error) ∨
        (s.xmtState = .waitFrameTime ∧ s.rpt = true ∧ t.rpt = false))

/-- An event of XMT, whatever script and queue it leaves. -/
theorem XmtStep.transmissionAccounted {s t : State} {ls : List Line} {later : List XmtEvt} {e : XmtEvt}
    (h : XmtStep { s with script := ls, xmtq := later } e t) : TransmissionAccounted s t := by
  cases h with
  | startFrame hs hb ha => exact .frame (startFrame_trace_eq _) rfl (.inl ⟨hs, hb, by simpa using ha⟩)
  | frameAgain hs hr => exact .frame (startFrame_trace_eq _) rfl (.inr ⟨hs, hr, by simp⟩)
  | ignored | transmitDone | edgeSeen => exact .nothing [] (by simp) (by simp)
  | startBad | startIllegal | transmitError | transmitTimeout | echoError | echoTimeout | frameEnd | backFrameEnd =>
    exact .nothing [.postCtl .xactdone] (by simp) (by simp [transmits])
  | echoAnswer =>
    exact .nothing [.timerOff, .manReceive .rspbuf s.params.rspLen, .timerOn s.params.tRcvMs]
      (by simp [enterWaitRcvDone_eq]) (by simp [transmits])
  | echoNoAnswer => exact .nothing [.timerOff, .timerOn s.params.tFrameMs] (by simp) (by simp [transmits])
  | echoBad => exact .nothing [.timerOff, .postCtl .xactdone] (by simp) (by simp [transmits])
  | answer => exact .nothing [.timerOff, .timerOn s.params.tBackMs] (by simp) (by simp [transmits])
  | answerError => exact .nothing [.timerOn s.params.tFrameMs] (by simp) (by simp [transmits])
  | answerTimeout => exact .nothing [.manAbortReceive, .postCtl .xactdone] (by simp) (by simp [transmits])

/-- A transmission is among the actions that start an engine. -/
theorem transmits_of_startsEngine {a : Action} (h : startsEngine a = false) : transmits a = false := by
  cases a with
  | manTransmit => contradiction
  | _ => rfl

theorem StartsNothing.transmissionAccounted {s t : State} (h : StartsNothing s t) : TransmissionAccounted s t := by
  obtain ⟨acts, htrace, hacts⟩ := h.trace
  exact .nothing acts htrace fun a ha => transmits_of_startsEngine (hacts a ha)

theorem step_transmissionAccounted {s t : State} (h : step s = .next t) : TransmissionAccounted s t := by
  cases step_cases s t h with
  | xmt _ _ _ _ _ _ h => exact h.transmissionAccounted
  | xmtOp _ _ _ _ _ _ h => exact XmtStep.transmissionAccounted (later := s.xmtq) h
  | ctl _ _ _ _ _ _ h => exact h.startsNothing.transmissionAccounted
  | ctlOp _ _ _ _ _ _ h => exact (CtlStep.startsNothing (later := s.ctlq) h).transmissionAccounted
  | tick _ _ sample => exact .nothing [.getBusState sample] rfl (by simp [transmits])
  | accepted _ _ _ m => exact .nothing [.queuePut m true, .postCtl .msgenq] rfl (by simp [transmits])
  | full _ _ m => exact .nothing [.queuePut m false] rfl (by simp [transmits])
  | _ => exact .nothing [] (by simp) (by simp)

/-- Settles O58. -/
theorem transmissionsAreAccounted : Obligations.TransmissionsAreAccounted := by
  intro s t h
  cases step_transmissionAccounted h with
  | nothing acts htrace hacts => exact ⟨acts, htrace, fun ⟨_, _, hmem⟩ => absurd (hacts _ hmem) (by simp [transmits])⟩
  | frame htrace ht horigin => exact ⟨_, htrace, fun _ => ⟨rfl, ht, horigin⟩⟩

/-! ### The result of each rule -/

/-- An event is dispatched by the rule of its key in the state XMT is in (R101, R198). -/
theorem exec_event_of_rule {st : XmtState} {e : XmtEvt} {rule : State → State} {s t : State}
    (hkey : exec (xmtKeyInstr st e) s = inXmtState st rule s) (hs : s.xmtState = st) (ht : rule s = t) :
    exec (xmtEvtInstr e) s = .next t := by
  have hdispatch := exec_xmtKeyInstr st e s
  rw [if_pos hs, hkey, inXmtState, if_pos hs, ht] at hdispatch
  exact hdispatch.symm

theorem exec_xmtDefault_of_noRow {s : State} {e : XmtEvt} (hrow : xmtHasRow s.xmtState e = false) :
    exec (.xmtDefault s.xmtState e) s = .next s := by
  rw [exec, execXmtDefault, if_neg (by simp [hrow]), inXmtState, if_pos rfl, ignoreEvent]

/-- An event without a row is dispatched by the default row, which ignores it (R197). -/
theorem exec_event_of_noRow {s : State} {e : XmtEvt} (hrow : xmtHasRow s.xmtState e = false) :
    exec (xmtEvtInstr e) s = .next s := by
  have hdispatch := exec_xmtKeyInstr s.xmtState e s
  rw [if_pos rfl, xmtKeyInstr_of_noRow hrow, exec_xmtDefault_of_noRow hrow] at hdispatch
  exact hdispatch.symm

/-- Ending a transaction from a state other than Idle reports it (R174). -/
theorem xmtGoto_idle_of_ne_idle {s : State} (hx : s.xmtState ≠ .idle) :
    xmtGoto .idle false s = { postCtl .xactdone s with xmtState := .idle } := by
  rw [xmtGoto_of_ne _ _ _ hx.symm, xmtExit_of_ne_idle _ _ hx]
  rfl

/-- The cases of a dispatch are exact: each one is what the event's dispatch answers (the converse of `exec_xmtStep`). -/
theorem XmtStep.exec_eq {s t : State} {e : XmtEvt} (h : XmtStep s e t) : exec (xmtEvtInstr e) s = .next t := by
  cases h with
  | ignored _ hrow => exact exec_event_of_noRow hrow
  | startBad hs hb => exact exec_event_of_rule rfl hs (by rw [xmtIdleStartRule, if_pos hb, failFast])
  | startIllegal hs hb ha =>
    exact exec_event_of_rule rfl hs (by rw [xmtIdleStartRule, if_neg (by simp [hb]), if_pos ha, failFast])
  | startFrame hs hb ha =>
    refine exec_event_of_rule rfl hs ?_
    rw [xmtIdleStartRule, if_neg (by simp [hb]), if_neg ha, xmtGoto_of_ne _ _ _ (by simp [hs]), classifyCurrent_xmtState, hs]
    rfl
  | transmitDone hs => exact exec_event_of_rule rfl hs (xmtGoto_of_ne _ _ _ (by simp [hs]))
  | transmitError hs | transmitTimeout hs | echoError hs | echoTimeout hs | answerTimeout hs =>
    exact exec_event_of_rule rfl hs (abort_of_ne_idle _ _ (by simp [hs]))
  | echoAnswer hs hm ha =>
    refine exec_event_of_rule rfl hs ?_
    exact (if_pos hm).trans ((if_pos ha).trans (xmtGoto_of_ne _ _ _ (by simp [hs])))
  | echoNoAnswer hs hm ha =>
    refine exec_event_of_rule rfl hs ?_
    exact (if_pos hm).trans ((if_neg (by simp [ha])).trans (xmtGoto_of_ne _ _ _ (by simp [hs])))
  | echoBad hs hm =>
    refine exec_event_of_rule rfl hs ?_
    exact (if_neg (Bool.eq_false_iff.mp hm)).trans (abort_of_ne_idle _ _ (by simp [hs]))
  | edgeSeen hs => exact exec_event_of_rule rfl hs rfl
  | answer hs | answerError hs => exact exec_event_of_rule rfl hs (xmtGoto_of_ne _ _ _ (by simp [hs]))
  | frameAgain hs hr =>
    refine exec_event_of_rule rfl hs ?_
    exact (if_pos hr).trans (xmtGoto_of_ne _ _ _ (by simp [hs]))
  | frameEnd hs hr =>
    refine exec_event_of_rule rfl hs ?_
    exact (if_neg (by simp [hr])).trans (xmtGoto_idle_of_ne_idle (by simp [hs]))
  | backFrameEnd hs => exact exec_event_of_rule rfl hs (xmtGoto_idle_of_ne_idle (by simp [hs]))

/-- The event and the key of its pair answer the same (R101). -/
theorem XmtStep.exec_eventOrKey {st : XmtState} {s t : State} {e : XmtEvt} {i : Instr} (h : XmtStep s e t)
    (hs : s.xmtState = st) (hi : i ∈ [xmtEvtInstr e, xmtKeyInstr st e]) : exec i s = .next t := by
  rcases List.mem_pair.mp hi with rfl | rfl
  · exact h.exec_eq
  · rw [exec_xmtKeyInstr, if_pos hs, h.exec_eq]

/-- Settles O15: the case of a dispatch for each clause. -/
theorem startInIdle : Obligations.StartInIdle := by
  intro s i hi hs ans rpt
  refine ⟨fun hb => ?_, fun hb ha => ?_, fun hb ha => ?_⟩
  · exact (XmtStep.startBad hs hb).exec_eventOrKey hs hi
  · rw [← ha]
    exact (XmtStep.startIllegal hs hb ha).exec_eventOrKey hs hi
  · have h := (XmtStep.startFrame hs hb ha).exec_eventOrKey hs hi
    rw [startFrame_eq] at h
    exact ⟨_, _, _, h⟩

/-- Settles O16. -/
theorem transmitDone : Obligations.TransmitDone := fun _ _ hi hs => (XmtStep.transmitDone hs).exec_eventOrKey hs hi

/-- Settles O17: event and key of each of the four pairs. -/
theorem abortsReportOnce : Obligations.AbortsReportOnce := by
  intro s i st h
  simp only [List.mem_cons, Prod.mk.injEq, List.not_mem_nil, or_false] at h
  rcases h with ⟨hs, rfl, rfl⟩ | ⟨hs, rfl, rfl⟩ | ⟨hs, rfl, rfl⟩ | ⟨hs, rfl, rfl⟩ | ⟨hs, rfl, rfl⟩ | ⟨hs, rfl, rfl⟩ |
    ⟨hs, rfl, rfl⟩ | ⟨hs, rfl, rfl⟩
  · exact (XmtStep.transmitError hs).exec_eventOrKey hs (by decide)
  · exact (XmtStep.transmitError hs).exec_eventOrKey hs (by decide)
  · exact (XmtStep.transmitTimeout hs).exec_eventOrKey hs (by decide)
  · exact (XmtStep.transmitTimeout hs).exec_eventOrKey hs (by decide)
  · exact (XmtStep.echoError hs).exec_eventOrKey hs (by decide)
  · exact (XmtStep.echoError hs).exec_eventOrKey hs (by decide)
  · exact (XmtStep.echoTimeout hs).exec_eventOrKey hs (by decide)
  · exact (XmtStep.echoTimeout hs).exec_eventOrKey hs (by decide)

/-- Arming the timer after stopping it: the expiries are withdrawn once, and both actions are traced (R185, R190). -/
theorem timerOn_after_timerOff (s : State) {u : State} (ms : Nat) (hparams : u.params = s.params)
    (hq : u.xmtq = (timerOff s).xmtq) (htrace : u.trace = (timerOff s).trace) :
    timerOn ms u =
      { u with
        tmrArmed := true
        tmrMs := ms
        xmtq := withdrawTimeouts s
        trace := s.trace ++ [.timerOff, .timerOn ms] } := by
  have hwithdrawn : withdrawTimeouts u = withdrawTimeouts (timerOff s) := by
    rw [withdrawTimeouts, hparams, hq]
    rfl
  rw [timerOn, hwithdrawn, withdrawTimeouts_timerOff, htrace, timerOff_trace, List.append_assoc]
  rfl

theorem answerExpected_iff (a : AnswerExpectation) : answerExpected a = true ↔ a = .maybe ∨ a = .required := by
  simp [answerExpected]

/-- Settles O18: the statement's comparison is `echoMatches`, and its answers are those expected. -/
theorem echoReceived : Obligations.EchoReceived := by
  intro s i hi hs same expected
  have hsame : same ↔ echoMatches s = true := (echoMatches_iff s).symm
  have hexpected : expected ↔ answerExpected s.ans = true := (answerExpected_iff s.ans).symm
  rw [hsame, hexpected, Bool.not_eq_true, Bool.not_eq_true]
  refine ⟨fun hm ha => ?_, fun hm ha => ?_, fun hm => ?_⟩
  · have hq : withdrawTimeouts { timerOff s with xmtState := .waitRcvDone } = withdrawTimeouts s :=
      withdrawTimeouts_timerOff s
    have h := (XmtStep.echoAnswer hs hm ha).exec_eventOrKey hs hi
    rw [enterWaitRcvDone_eq, hq, timerOff_trace, List.append_assoc] at h
    exact ⟨_, _, h⟩
  · have h := (XmtStep.echoNoAnswer hs hm ha).exec_eventOrKey hs hi
    rw [timerOn_after_timerOff s] at h
    · exact h
    all_goals rfl
  · have h := (XmtStep.echoBad hs hm).exec_eventOrKey hs hi
    rwa [postCtl, setStatus_trace, timerOff_trace, List.append_assoc] at h

/-- Settles O19. -/
theorem edgeSeen : Obligations.EdgeSeen := by
  intro s
  refine ⟨fun hs => ⟨?_, ?_⟩, fun hs => ?_⟩
  · exact (XmtStep.edgeSeen hs).exec_eventOrKey hs (by decide)
  · exact (XmtStep.edgeSeen hs).exec_eventOrKey hs (by decide)
  · have hrow : xmtHasRow s.xmtState .edgeseen = false := by
      cases hx : s.xmtState with
      | waitRcvDone => exact absurd hx hs
      | _ => rfl
    exact (XmtStep.ignored .edgeseen hrow).exec_eq

/-- Settles O20. -/
theorem answerReceived : Obligations.AnswerReceived := by
  intro s i hi hs
  have h := (XmtStep.answer hs).exec_eventOrKey hs hi
  rw [timerOn_after_timerOff s] at h
  · exact h
  all_goals rfl

/-- Settles O21. -/
theorem answerGarbled : Obligations.AnswerGarbled := fun _ _ hi hs => (XmtStep.answerError hs).exec_eventOrKey hs hi

/-- `ManAbortReceive()` (R279): no receive is armed afterwards, and nothing else changes but the buffers and the count of free
values. -/
theorem manAbortReceive_eq (s : State) :
    manAbortReceive s =
      { s with
        rxArmed := none
        trace := s.trace ++ [.manAbortReceive]
        echo0 := (manAbortReceive s).echo0
        echo1 := (manAbortReceive s).echo1
        rspbuf0 := (manAbortReceive s).rspbuf0
        freeNext := (manAbortReceive s).freeNext } := by
  cases ha : s.rxArmed with
  | none => simp [manAbortReceive, ha]
  | some armed =>
    obtain ⟨b, n⟩ := armed
    cases b <;> simp [manAbortReceive, ha, surrender]

/-- Settles O22. -/
theorem answerTimedOut : Obligations.AnswerTimedOut := by
  intro s i hi hs
  have h := (XmtStep.answerTimeout hs).exec_eventOrKey hs hi
  rw [manAbortReceive_eq, postCtl] at h
  simp only [setStatus_trace, List.append_assoc] at h
  exact ⟨_, _, _, _, fun hecho => (manAbortReceive_buffer .echo s).resolve_right fun ⟨n, hn⟩ => hecho n hn,
    fun hrsp => (manAbortReceive_buffer .rspbuf s).resolve_right fun ⟨n, hn⟩ => hrsp n hn, h⟩

/-- Settles O23. -/
theorem frameTimeOver : Obligations.FrameTimeOver := by
  intro s i hi hs
  refine ⟨fun hr => ?_, fun hr => (XmtStep.frameEnd hs hr).exec_eventOrKey hs hi⟩
  have h := (XmtStep.frameAgain hs hr).exec_eventOrKey hs hi
  rw [startFrame_eq] at h
  exact ⟨_, _, _, h⟩

/-- Settles O24. -/
theorem backFrameTimeOver : Obligations.BackFrameTimeOver := fun _ _ hi hs =>
  (XmtStep.backFrameEnd hs).exec_eventOrKey hs hi

/-- Settles O25: none of the 23 pairs has a row. -/
theorem unlistedPairsIgnored : Obligations.UnlistedPairsIgnored := by
  intro s e h
  have hrow : xmtHasRow s.xmtState e = false := by
    refine (?_ : ∀ p ∈ _, xmtHasRow p.1 p.2 = false) _ h
    decide
  exact ⟨exec_event_of_noRow hrow, exec_xmtDefault_of_noRow hrow⟩

end Sys2Proof.Machine
end

section
/-! PROOFS of the statements about CTL and the host call (43_ctl.md): one transaction at a time and a record for every pending
`MSGENQ`, under the host's contract; and the result of each rule, read off the cases of a dispatch. -/

namespace Sys2Proof.Machine

/-! ### A step under the host's contract (R276) -/

/-- The script that a step leaves: what stood in it, and lines that neither feed an event nor submit (R108). -/
theorem step_follows {s t : State} (h : step s = .next t) : Follows s t.script := by
  cases step_cases s t h with
  | xmt _ hls _ _ _ _ h =>
    obtain ⟨_, _, _, _, _, hscript⟩ := h.handles
    rwa [hscript]
  | xmtOp _ _ hs _ _ _ h =>
    obtain ⟨_, _, _, _, _, hscript⟩ := h.handles
    rw [hscript]
    exact .tail hs
  | ctl _ hls _ _ _ _ h => cases h <;> simpa using hls
  | ctlOp _ _ hs _ _ _ h => cases h <;> simpa using Follows.tail hs
  | tick _ _ _ hs | accepted _ _ hs => exact .tail hs
  | _ => simpa

/-- A step keeps the host's contract. -/
theorem hostContract_step {s t : State} (h : step s = .next t) (hh : hostContract s) : hostContract t :=
  (step_follows h).hostContract hh

/-- What a step under the host's contract can do with the events and messages of a transaction: the scheduler dispatches the
oldest event of a queue, or neither machine runs and at most a message is accepted with its `MSGENQ` (R231). -/
inductive ContractStep (s t : State) : Prop
  | xmt (ls : List Line) (e : XmtEvt) (later : List XmtEvt) (hq : s.xmtq = e :: later)
      (h : XmtStep { s with script := ls, xmtq := later } e t)
  | ctl (ls : List Line) (e : CtlEvt) (later : List CtlEvt) (hq : s.ctlq = e :: later)
      (h : CtlStep { s with script := ls, ctlq := later } e t)
  | noEvent (hparams : t.params = s.params) (hctl : t.ctlState = s.ctlState) (hxmt : t.xmtState = s.xmtState)
      (hstart : t.xmtq.count .start = s.xmtq.count .start)
      (hmsgs : (t.q = s.q ∧ t.ctlq = s.ctlq) ∨ ∃ m, t.q = s.q ++ [m] ∧ t.ctlq = s.ctlq ++ [.msgenq])

theorem step_contractStep {s t : State} (h : step s = .next t) (hh : hostContract s) : ContractStep s t := by
  have hnotFed {l : Line} {ls : List Line} (hs : s.script = l :: ls) (hl : feedsEvent l = true) : False := by
    rw [hh l (hs ▸ List.mem_cons_self)] at hl
    contradiction
  cases step_cases s t h with
  | xmt ls _ e later _ hq h => exact .xmt ls e later hq h
  | ctl ls _ e later _ hq h => exact .ctl ls e later hq h
  | xmtOp _ _ hs hl | ctlOp _ _ hs hl => exact (hnotFed hs hl).elim
  | accepted _ _ _ m => exact .noEvent rfl rfl rfl rfl (.inr ⟨m, rfl, rfl⟩)
  | posted _ _ e he =>
    have hne : e ≠ .start := by rcases he with rfl | rfl | rfl <;> nofun
    exact .noEvent rfl rfl rfl (by simp [List.count_append, hne]) (.inl ⟨rfl, rfl⟩)
  | _ => exact .noEvent (by simp) (by simp) (by simp) (by simp [List.count_append]) (.inl (by simp))

/-! ### One transaction at a time (R46, R239) -/

/-- Only a pending `START` counts among the events of XMT. -/
theorem inFlight_of_xmtq_cons {s : State} {e : XmtEvt} {later : List XmtEvt} (hq : s.xmtq = e :: later) (ls : List Line) :
    inFlight s = inFlight { s with script := ls, xmtq := later } + if e = .start then 1 else 0 := by
  simp only [inFlight, hq, List.count_cons, beq_iff_eq]
  omega

/-- Only a pending `XACTDONE` counts among the events of CTL. -/
theorem inFlight_of_ctlq_cons {s : State} {e : CtlEvt} {later : List CtlEvt} (hq : s.ctlq = e :: later) (ls : List Line) :
    inFlight s = inFlight { s with script := ls, ctlq := later } + if e = .xactdone then 1 else 0 := by
  simp only [inFlight, hq, List.count_cons, beq_iff_eq]
  omega

/-- XMT posts nothing to itself, and the timer withdraws no `START` (R281). -/
theorem XmtStep.count_start {s t : State} {e : XmtEvt} (h : XmtStep s e t) : t.xmtq.count .start = s.xmtq.count .start := by
  cases h with
  | startFrame | echoAnswer | echoNoAnswer | echoBad | answer | answerError | frameAgain =>
    simp [count_withdrawTimeouts_of_ne]
  | _ => simp

/-- A `START` dispatched in Idle stands for one transaction, which is busy or reported afterwards (R199(e)). -/
theorem XmtStep.inFlight {s t : State} {e : XmtEvt} (h : XmtStep s e t) :
    Machine.inFlight t = Machine.inFlight s + if s.xmtState = .idle ∧ e = .start then 1 else 0 := by
  have hreport := one_report_per_start s t e h.exec_eq
  simp only [Machine.inFlight, h.count_start]
  omega

/-- The re-post of a completion is a `MSGENQ` (R235). -/
theorem count_xactdone_complete (s : State) : (complete s).ctlq.count .xactdone = s.ctlq.count .xactdone := by
  by_cases hr : s.params.ctlBusyEnq = .defer ∧ s.q ≠ []
  · simp [complete_of_repost s hr, List.count_append]
  · simp [complete_of_not_repost s hr]

/-- An event of CTL puts as many transactions in flight as it makes CTL wait for, and an `XACTDONE` in Wait, which is off the
queue, ends the one that CTL waited for (R233, R235). -/
theorem CtlStep.inFlight {s t : State} {e : CtlEvt} (h : CtlStep s e t) :
    Machine.inFlight t + ctlBusy s.ctlState =
      Machine.inFlight s + ctlBusy t.ctlState + if s.ctlState = .wait ∧ e = .xactdone then 1 else 0 := by
  cases h with
  | dequeue m rest hs => simp [Machine.inFlight, hs, ctlBusy, List.count_append]; omega
  | deliver hs => simp [Machine.inFlight, hs, ctlBusy, count_xactdone_complete]
  | ignored hs => simp [hs]
  | nothingQueued | busy => simp

theorem ctlBusy_le_one (c : CtlState) : ctlBusy c ≤ 1 := by cases c <;> decide

/-- With a `START` pending XMT is idle: a busy XMT would be a second transaction. -/
theorem xmtState_eq_idle_of_start_pending {s : State} (hf : flightInv s) (hmem : .start ∈ s.xmtq) :
    s.xmtState = .idle := by
  by_contra hx
  have hpending : 0 < s.xmtq.count .start := List.count_pos_iff.mpr hmem
  have hone : inFlight s ≤ 1 := hf ▸ ctlBusy_le_one _
  rw [inFlight, xmtBusy_of_ne_idle hx] at hone
  omega

/-- With an `XACTDONE` pending CTL waits for it. -/
theorem ctlState_eq_wait_of_xactdone_pending {s : State} (hf : flightInv s) (hmem : .xactdone ∈ s.ctlq) :
    s.ctlState = .wait := by
  have hpending : 0 < s.ctlq.count .xactdone := List.count_pos_iff.mpr hmem
  cases hc : s.ctlState with
  | wait => rfl
  | idle =>
    have hnone : inFlight s = 0 := by rw [hf, hc, ctlBusy]
    rw [inFlight] at hnone
    omega

/-- An event of XMT keeps the transaction: `START` is dispatched in Idle, so what was pending is busy or reported. -/
theorem flightInv_xmt {s t : State} {ls : List Line} {e : XmtEvt} {later : List XmtEvt} (hq : s.xmtq = e :: later)
    (h : XmtStep { s with script := ls, xmtq := later } e t) (hf : flightInv s) : flightInv t := by
  have hidle : (s.xmtState = .idle ∧ e = .start) ↔ e = .start :=
    and_iff_right_of_imp fun he => xmtState_eq_idle_of_start_pending hf (by simp [hq, he])
  calc inFlight t
    _ = inFlight { s with script := ls, xmtq := later } + if s.xmtState = .idle ∧ e = .start then 1 else 0 := h.inFlight
    _ = inFlight s := by rw [inFlight_of_xmtq_cons hq ls]; simp only [hidle]
    _ = ctlBusy s.ctlState := hf
    _ = ctlBusy t.ctlState := by rw [h.ctlState]

/-- An event of CTL keeps the transaction: `XACTDONE` is dispatched in Wait, so the one that ends is the one waited for. -/
theorem flightInv_ctl {s t : State} {ls : List Line} {e : CtlEvt} {later : List CtlEvt} (hq : s.ctlq = e :: later)
    (h : CtlStep { s with script := ls, ctlq := later } e t) (hf : flightInv s) : flightInv t := by
  have hwait : (s.ctlState = .wait ∧ e = .xactdone) ↔ e = .xactdone :=
    and_iff_right_of_imp fun he => ctlState_eq_wait_of_xactdone_pending hf (by simp [hq, he])
  have hcount := inFlight_of_ctlq_cons hq ls
  have hstep := h.inFlight
  simp only [hwait] at hstep
  unfold flightInv at hf ⊢
  omega

/-- Settles O44: each dispatch keeps the transaction, and no other step touches what is counted. -/
theorem oneTransactionAtATime : Obligations.OneTransactionAtATime := by
  intro s t hh hf h
  refine ⟨hostContract_step h hh, ?_⟩
  cases step_contractStep h hh with
  | xmt ls e later hq h => exact flightInv_xmt hq h hf
  | ctl ls e later hq h => exact flightInv_ctl hq h hf
  | noEvent _ hctl hxmt hstart hmsgs =>
    have hdone : t.ctlq.count .xactdone = s.ctlq.count .xactdone := by
      rcases hmsgs with ⟨_, hq⟩ | ⟨_, _, hq⟩ <;> simp [hq, List.count_append]
    rw [flightInv, inFlight, hstart, hxmt, hdone, hctl]
    exact hf

/-! ### A record for every pending `MSGENQ` (R238) -/

/-- XMT posts only `XACTDONE` to CTL (R174). -/
theorem XmtStep.count_msgenq {s t : State} {e : XmtEvt} (h : XmtStep s e t) :
    t.ctlq.count .msgenq = s.ctlq.count .msgenq := by
  cases h <;> simp [List.count_append]

/-- Under `drop` CTL posts nothing to itself, and an event takes a record only if it is the `MSGENQ` of one (R233, R235). -/
theorem CtlStep.takes_record {s t : State} {e : CtlEvt} (h : CtlStep s e t) (hdrop : s.params.ctlBusyEnq = .drop) :
    t.ctlq = s.ctlq ∧ s.q.length ≤ t.q.length + if e = .msgenq then 1 else 0 := by
  cases h with
  | dequeue m rest _ hq => exact ⟨rfl, by simp [hq]⟩
  | deliver => exact ⟨by rw [complete_of_not_repost s (by simp [hdrop])]; rfl, by simp⟩
  | nothingQueued | busy | ignored => exact ⟨rfl, Nat.le_add_right _ _⟩

/-- An event of CTL keeps the records: taking its `MSGENQ` off the queue pays for the record it takes. -/
theorem pendingInv_ctl {s t : State} {ls : List Line} {e : CtlEvt} {later : List CtlEvt} (hq : s.ctlq = e :: later)
    (h : CtlStep { s with script := ls, ctlq := later } e t) (hi : pendingInv s) : pendingInv t := by
  intro hdrop
  have hdrop : s.params.ctlBusyEnq = .drop := h.keepsBusHealth.params ▸ hdrop
  obtain ⟨hctlq, hlen⟩ : t.ctlq = later ∧ s.q.length ≤ t.q.length + _ := h.takes_record hdrop
  have hpending := hi hdrop
  simp only [hq, List.count_cons, beq_iff_eq] at hpending
  rw [hctlq]
  omega

/-- Settles O48: a record comes with its `MSGENQ` and goes with one. -/
theorem pendingMessagesHaveRecords : Obligations.PendingMessagesHaveRecords := by
  intro s t hh hi h
  refine ⟨hostContract_step h hh, ?_⟩
  cases step_contractStep h hh with
  | xmt ls e later _ h =>
    obtain ⟨_, _, hq, _, hparams, _⟩ := h.handles
    simpa only [pendingInv, h.count_msgenq, hq, hparams] using hi
  | ctl ls e later hq h => exact pendingInv_ctl hq h hi
  | noEvent hparams _ _ _ hmsgs =>
    rcases hmsgs with ⟨hq, hctlq⟩ | ⟨m, hq, hctlq⟩ <;> simpa [pendingInv, hparams, hq, hctlq, List.count_append] using hi

/-! ### The result of each rule -/

/-- An event is dispatched by the rule of its key in the state CTL is in (R101, R230). -/
theorem exec_ctlEvent_of_rule {st : CtlState} {e : CtlEvt} {rule : State → Result} {s : State} {r : Result}
    (hkey : exec (ctlKeyInstr st e) s = inCtlState st rule s) (hs : s.ctlState = st) (hr : rule s = r) :
    exec (ctlEvtInstr e) s = r := by
  have hdispatch := exec_ctlKeyInstr st e s
  rw [if_pos hs, hkey, inCtlState, if_pos hs, hr] at hdispatch
  exact hdispatch.symm

/-- The cases of a dispatch are exact: each one is what the event's dispatch answers (the converse of `exec_ctlStep`). -/
theorem CtlStep.exec_eq {s t : State} {e : CtlEvt} (h : CtlStep s e t) : exec (ctlEvtInstr e) s = .next t := by
  cases h with
  | nothingQueued hs hq => exact exec_ctlEvent_of_rule rfl hs (if_pos hq)
  | dequeue m rest hs hq =>
    exact exec_ctlEvent_of_rule rfl hs ((if_neg (by simp [hq])).trans (enterWait_of_cons s m rest hq))
  | busy hs | deliver hs | ignored hs => exact exec_ctlEvent_of_rule rfl hs rfl

/-- The event and the key of its pair answer the same (R101). -/
theorem CtlStep.exec_eventOrKey {st : CtlState} {s t : State} {e : CtlEvt} {i : Instr} (h : CtlStep s e t)
    (hs : s.ctlState = st) (hi : i ∈ [ctlEvtInstr e, ctlKeyInstr st e]) : exec i s = .next t := by
  rcases List.mem_pair.mp hi with rfl | rfl
  · exact h.exec_eq
  · rw [exec_ctlKeyInstr, if_pos hs, h.exec_eq]

/-- Settles O28. -/
theorem messageDequeued : Obligations.MessageDequeued := fun _ _ hi hs =>
  ⟨fun hq => (CtlStep.nothingQueued hs hq).exec_eventOrKey hs hi,
    fun m rest hq => (CtlStep.dequeue m rest hs hq).exec_eventOrKey hs hi⟩

/-- Settles O29. -/
theorem ctlEventsWithoutEffect : Obligations.CtlEventsWithoutEffect := by
  intro s
  refine ⟨fun hs => ⟨?_, ?_⟩, fun hs => ⟨?_, ?_⟩⟩
  · exact (CtlStep.busy hs).exec_eventOrKey hs (by decide)
  · exact (CtlStep.busy hs).exec_eventOrKey hs (by decide)
  · exact (CtlStep.ignored hs).exec_eventOrKey hs (by decide)
  · exact (CtlStep.ignored hs).exec_eventOrKey hs (by decide)

/-- Settles O30: completion (R235) with and without its re-post. -/
theorem transactionDelivered : Obligations.TransactionDelivered := by
  intro s i hi hs
  have h := (CtlStep.deliver hs).exec_eventOrKey hs hi
  refine ⟨fun hnone => ?_, fun hdefer hq => ?_⟩
  · have hno : ¬(s.params.ctlBusyEnq = .defer ∧ s.q ≠ []) := by
      rintro ⟨hdefer, hq⟩
      rcases hnone with hdrop | hempty
      · rw [hdrop] at hdefer; contradiction
      · exact hq hempty
    rwa [complete_of_not_repost s hno] at h
  · rwa [complete_of_repost s ⟨hdefer, hq⟩, postCtl, outputRcvMsg_trace, List.append_assoc] at h

theorem exec_transmitmessage (addr data : Byte) (cb : Option CbT) (opt : OptT) (s : State) :
    exec (.transmitmessage addr data cb opt) s = .next (transmitMessage (newMessage addr data cb opt) s) := rfl

/-- Settles O31. -/
theorem transmitMessageCall : Obligations.TransmitMessageCall := by
  intro s addr data cb opt m
  rw [exec_transmitmessage]
  exact ⟨fun hroom => congrArg _ (transmitMessage_of_room m s hroom),
    fun hfull => congrArg _ (transmitMessage_of_full m s hfull)⟩

end Sys2Proof.Machine
end

section
/-! PROOFS of the statements about the status descriptions (44_status.md): one table of strings, indexed by the status codes. -/

namespace Sys2Proof.Machine

/-! ### The table of descriptions (R104, R251) -/

/-- The ten strings in the order of the status codes. -/
def statusTable (t : StatusStrings) : List String :=
  [t.ok, t.rcvOk, t.rcvErr, t.xmtTimeout, t.busErr, t.echoErr, t.rcvTimeout, t.busCol, t.illOp, t.busMonBad]

/-- A status's description stands in the table at its code. -/
theorem statusTable_statusCode (t : StatusStrings) (st : ResultStatus) :
    (statusTable t)[(statusCode st).toNat]? = some (statusString t st) := by
  cases st <;> rfl

theorem statusTable_eq_none (t : StatusStrings) {n : Nat} (h : 10 ≤ n) : (statusTable t)[n]? = none :=
  List.getElem?_eq_none h

/-- The codes that name a status are those below 10. -/
theorem ten_le_of_statusOfCode_eq_none {n : Nat} (h : statusOfCode n = none) : 10 ≤ n := by
  by_contra hlt
  rw [Nat.not_le] at hlt
  interval_cases n <;> contradiction

/-- A description is a lookup in the table, with the sentinel beyond its end. -/
theorem describeStatus_eq_statusTable (t : StatusStrings) (n : Nat) :
    describeStatus t n = (statusTable t)[n]?.getD t.unknown := by
  unfold describeStatus
  cases h : statusOfCode n with
  | some st => rw [← statusCode_of_statusOfCode h, statusTable_statusCode]; rfl
  | none => rw [statusTable_eq_none t (ten_le_of_statusOfCode_eq_none h)]; rfl

/-- Two statuses with one code are the same status. -/
theorem statusCode_injective {a b : ResultStatus} (h : (statusCode a).toNat = (statusCode b).toNat) : a = b :=
  Option.some.inj (by rw [← statusOfCode_statusCode a, h, statusOfCode_statusCode b])

/-- In a table without repetition a description names one status. -/
theorem statusString_injective {t : StatusStrings} (hnodup : (statusTable t).Nodup) {a b : ResultStatus}
    (h : statusString t a = statusString t b) : a = b := by
  obtain ⟨hlt, _⟩ := List.getElem?_eq_some_iff.mp (statusTable_statusCode t a)
  have hentry : (statusTable t)[(statusCode a).toNat]? = (statusTable t)[(statusCode b).toNat]? := by
    rw [statusTable_statusCode, statusTable_statusCode, h]
  exact statusCode_injective ((List.getElem?_inj hlt hnodup).mp hentry)

theorem statusTable_defaultStrings_nodup : (statusTable defaultStrings).Nodup := by decide

/-! ### The statements (R250, R252) -/

theorem exec_getstatusdesc (n : Byte) (s : State) :
    exec (.getstatusdesc n) s = .next { s with returned := .text (describeStatus s.params.strings n.toNat) } := rfl

/-- Settles O32: the call returns the entry of the table. -/
theorem statusDescriptionCall : Obligations.StatusDescriptionCall := by
  intro s n
  rw [exec_getstatusdesc, describeStatus_eq_statusTable]
  rfl

/-- Settles O34: the default table has no repetition. -/
theorem defaultStringsDistinct : Obligations.DefaultStringsDistinct :=
  fun _ _ h => statusString_injective statusTable_defaultStrings_nodup h

end Sys2Proof.Machine
end

section
/-! PROOFS of the statements about exceptions (60_exceptions.md): at most one expiry per arming of the timer, the access check on
a query and how debug mode lifts it, the status that no rule assigns, the fault that no step takes, and the lines that the
contracts of the environment refuse. -/

namespace Sys2Proof.Machine

/-! ### One expiry per arming (R281) -/

/-- An event of XMT leaves the timer and the queue alone, or arms or disarms the timer, which withdraws the queued expiries. -/
theorem XmtStep.timer_kept_or_withdrawn {s t : State} {e : XmtEvt} (h : XmtStep s e t) :
    (t.tmrArmed = s.tmrArmed ∧ t.xmtq = s.xmtq) ∨ t.xmtq = withdrawTimeouts s := by
  cases h with
  | startFrame | echoBad | answerError | frameAgain => exact .inr rfl
  | echoAnswer | echoNoAnswer | answer => exact .inr (withdrawTimeouts_timerOff s)
  | _ => exact .inl (by simp)

/-- What leaves the timer alone and queues no expiry keeps the claim. -/
theorem expiryInv_of_kept {s t : State} (hparams : t.params = s.params) (harmed : t.tmrArmed = s.tmrArmed)
    (hcount : t.xmtq.count .timeout ≤ s.xmtq.count .timeout) (hi : expiryInv s) : expiryInv t := by
  intro hc
  have hone := hi (hparams ▸ hc)
  rw [harmed]
  omega

/-- With the queued expiries withdrawn, the timer alone can still give one. -/
theorem expiryInv_of_withdrawn {s t : State} (hparams : t.params = s.params) (hq : t.xmtq = withdrawTimeouts s) :
    expiryInv t := by
  intro hc
  rw [hq, count_timeout_withdrawTimeouts s (hparams ▸ hc), Nat.zero_add]
  exact Bool.toNat_le _

theorem expiryInv_xmt {s t : State} {e : XmtEvt} (h : XmtStep s e t) (hi : expiryInv s) : expiryInv t := by
  have hparams := h.keepsBusHealth.params
  rcases h.timer_kept_or_withdrawn with ⟨harmed, hq⟩ | hq
  · exact expiryInv_of_kept hparams harmed (by rw [hq]) hi
  · exact expiryInv_of_withdrawn hparams hq

/-- CTL posts no expiry to XMT. -/
theorem CtlStep.count_timeout {s t : State} {e : CtlEvt} (h : CtlStep s e t) :
    t.xmtq.count .timeout = s.xmtq.count .timeout := by
  cases h <;> simp [List.count_append]

theorem expiryInv_ctl {s t : State} {e : CtlEvt} (h : CtlStep s e t) (hi : expiryInv s) : expiryInv t :=
  expiryInv_of_kept h.keepsBusHealth.params (by cases h <;> simp) h.count_timeout.le hi

/-- An expiry of an armed timer ends the arming that it belongs to. -/
theorem expiryInv_expire {s : State} (harmed : s.params.timerContract = true → s.tmrArmed = true) (hi : expiryInv s) :
    expiryInv (envPostXmt .timeout { s with tmrArmed := false }) := by
  intro hc
  have hnone : s.xmtq.count .timeout + 1 ≤ 1 := by simpa [harmed hc] using hi hc
  simpa [List.count_append] using hnone

/-- Settles O47: an expiry is queued only by ending its arming, and arming the timer again withdraws it. -/
theorem noStaleExpiry : Obligations.NoStaleExpiry := by
  intro s t hi h
  cases step_cases s t h with
  | xmt ls _ e later _ hq h =>
    have htaken : expiryInv { s with script := ls, xmtq := later } :=
      expiryInv_of_kept (s := s) rfl rfl (by rw [hq]; exact List.count_le_count_cons) hi
    exact expiryInv_xmt h htaken
  | xmtOp _ _ _ _ _ _ h => exact expiryInv_xmt h hi
  | ctl _ _ _ _ _ _ h | ctlOp _ _ _ _ _ _ h => exact expiryInv_ctl h hi
  | expire ls _ harmed => exact expiryInv_expire (s := { s with script := ls }) harmed hi
  | posted _ _ e he =>
    have hne : e ≠ .timeout := by rcases he with rfl | rfl | rfl <;> nofun
    exact expiryInv_of_kept (s := s) rfl rfl (by simp [List.count_append, hne]) hi
  | _ => exact expiryInv_of_kept (by simp) (by simp) (by simp [List.count_append]) hi

/-! ### The access check and debug mode (R135, R136, R282, R285) -/

section
variable {o : Opc} {a d : Byte}

/-- In debug mode the access check lets every address pass. -/
theorem queryAllowed_debug (a : Byte) : queryAllowed a true = true := Bool.or_true _

/-- Only the access check refuses a query. -/
theorem queryAnswer_eq_error_iff {x : AnswerExpectation} (hx : x ≠ .error) (a : Byte) (dbg : Bool) :
    queryAnswer x a dbg = .error ↔ queryAllowed a dbg = false := by
  cases hallowed : queryAllowed a dbg with
  | true => simp [queryAnswer_of_allowed x hallowed, hx]
  | false => simp [queryAnswer_of_refused x hallowed]

/-- What a query expects if its access check passes: its class decides (R135, R136). -/
def queryExpectation (o : Opc) (d : Byte) : AnswerExpectation := if qRequired o d then .required else .maybe

theorem queryExpectation_ne_error (o : Opc) (d : Byte) : queryExpectation o d ≠ .error := by
  unfold queryExpectation
  split <;> nofun

/-- A query is answered by its class and the access check. -/
theorem classifyAnswer_of_query (hcmd : isCmd a = true) (hmaybe : spcMaybe o a d = false)
    (hrequired : spcRequired o a d = false) (hnone : spcNone o a = false)
    (hquery : qRequired o d = true ∨ qMaybe o d = true) (dbg : Bool) :
    classifyAnswer o a d dbg = queryAnswer (queryExpectation o d) a dbg := by
  rw [classifyAnswer_of_not_special hcmd hmaybe hrequired hnone, queryExpectation]
  split_ifs with hq hy
  · rfl
  · rfl
  · exact absurd hquery (by simp [hq, hy])

/-- A frame is a query, or its classification is no refusal and does not ask for debug mode. -/
theorem classifyAnswer_fixed_or_query (o : Opc) (a d : Byte) :
    (∃ x, x ≠ .error ∧ ∀ dbg, classifyAnswer o a d dbg = x) ∨
      ∀ dbg, classifyAnswer o a d dbg = queryAnswer (queryExpectation o d) a dbg := by
  cases hcmd : isCmd a with
  | false => exact .inl ⟨.none, nofun, fun _ => classifyAnswer_of_not_isCmd hcmd⟩
  | true =>
  cases hmaybe : spcMaybe o a d with
  | true => exact .inl ⟨.maybe, nofun, fun _ => classifyAnswer_of_spcMaybe hcmd hmaybe⟩
  | false =>
  cases hrequired : spcRequired o a d with
  | true => exact .inl ⟨.required, nofun, fun _ => classifyAnswer_of_spcRequired hcmd hmaybe hrequired⟩
  | false =>
  cases hnone : spcNone o a with
  | true => exact .inl ⟨.none, nofun, fun _ => classifyAnswer_of_spcNone hcmd hmaybe hrequired hnone⟩
  | false =>
  by_cases hquery : qRequired o d = true ∨ qMaybe o d = true
  · exact .inr (classifyAnswer_of_query hcmd hmaybe hrequired hnone hquery)
  · refine .inl ⟨.none, nofun, fun dbg => ?_⟩
    obtain ⟨hq, hy⟩ := not_or.mp hquery
    rw [classifyAnswer_of_not_special hcmd hmaybe hrequired hnone, if_neg hq, if_neg hy]

end

/-- Settles O9: debug mode enters only the access check of a query, which it passes. -/
theorem debugModeOnlyLiftsRefusals : Obligations.DebugModeOnlyLiftsRefusals := by
  intro o a d
  rcases classifyAnswer_fixed_or_query o a d with ⟨x, hx, hfixed⟩ | hquery
  · rw [hfixed, hfixed]
    exact ⟨hx, fun _ => rfl, fun herr => absurd herr hx⟩
  · have hdebug : queryAnswer (queryExpectation o d) a true = queryExpectation o d :=
      queryAnswer_of_allowed _ (queryAllowed_debug a)
    have hne := queryExpectation_ne_error o d
    rw [hquery, hquery, hdebug]
    refine ⟨hne, fun hallowed => ?_, fun _ => rfl⟩
    rw [Ne, queryAnswer_eq_error_iff hne, Bool.not_eq_false] at hallowed
    exact (queryAnswer_of_allowed _ hallowed).symm

/-- Settles O10. -/
theorem queryAccessCheck : Obligations.QueryAccessCheck := by
  intro o a d dbg hcmd hmaybe hrequired hnone hquery
  rw [classifyAnswer_of_query hcmd hmaybe hrequired hnone hquery]
  exact queryAnswer_eq_error_iff (queryExpectation_ne_error o d) a dbg

/-! ### The status that no rule assigns (R262) -/

/-- Every status that XMT assigns is another one than `ST_RCVERR`. -/
theorem XmtStep.status_ne_rcvErr {s t : State} {e : XmtEvt} (h : XmtStep s e t) (hs : s.cur.status ≠ .rcvErr) :
    t.cur.status ≠ .rcvErr := by
  cases h with
  | ignored | edgeSeen | frameEnd | backFrameEnd => exact hs
  | answerError => simp only [timerOn_cur, setStatus_cur]; split <;> nofun
  | answerTimeout => simp only [postCtl_cur, setStatus_cur]; split <;> nofun
  | _ => simp

theorem statusInv_xmt {s t : State} {e : XmtEvt} (h : XmtStep s e t) (hi : statusInv s) : statusInv t := by
  obtain ⟨hcur, hwaiting, hdelivered⟩ := hi
  obtain ⟨_, _, hq, hd, _⟩ := h.handles
  exact ⟨h.status_ne_rcvErr hcur, by rwa [hq], by rwa [hd]⟩

/-- CTL moves a message on with its status (R233, R235). -/
theorem statusInv_ctl {s t : State} {e : CtlEvt} (h : CtlStep s e t) (hi : statusInv s) : statusInv t := by
  obtain ⟨hcur, hwaiting, hdelivered⟩ := hi
  cases h with
  | dequeue m rest _ hq =>
    rw [hq, List.forall_mem_cons] at hwaiting
    exact ⟨hwaiting.1, hwaiting.2, hdelivered⟩
  | deliver =>
    have hmore : ∀ m ∈ s.delivered ++ [s.cur], m.status ≠ .rcvErr :=
      List.forall_mem_append.mpr ⟨hdelivered, List.forall_mem_singleton.mpr hcur⟩
    exact ⟨by rwa [complete_cur], by rwa [complete_q], by rwa [complete_delivered]⟩
  | nothingQueued | busy | ignored => exact ⟨hcur, hwaiting, hdelivered⟩

/-- Settles O51: a new message holds `ST_OK` (R231), and the two machines keep the status out. -/
theorem receiveErrorStatusNeverSet : Obligations.ReceiveErrorStatusNeverSet := by
  intro s t hi h
  cases step_cases s t h with
  | xmt _ _ _ _ _ _ h | xmtOp _ _ _ _ _ _ h => exact statusInv_xmt h hi
  | ctl _ _ _ _ _ _ h | ctlOp _ _ _ _ _ _ h => exact statusInv_ctl h hi
  | accepted _ _ _ m _ hm =>
    obtain ⟨hcur, hwaiting, hdelivered⟩ := hi
    have hnew : m.status ≠ .rcvErr := by rw [hm]; nofun
    exact ⟨hcur, List.forall_mem_append.mpr ⟨hwaiting, List.forall_mem_singleton.mpr hnew⟩, hdelivered⟩
  | _ => simpa [statusInv] using hi

/-! ### The fault that no step takes (R38, R232, R260) -/

/-- Every event of XMT is answered, by a rule or by being ignored. -/
theorem exec_xmtEvt_next (e : XmtEvt) (s : State) : ∃ t, exec (xmtEvtInstr e) s = .next t := by
  cases e <;> exact ⟨_, rfl⟩

/-- Every event of CTL has a case: `MSGENQ` in Idle dequeues only where `q` holds a message (R232). -/
theorem exists_ctlStep (e : CtlEvt) (s : State) : ∃ t, CtlStep s e t := by
  cases hs : s.ctlState with
  | wait =>
    cases e with
    | msgenq => exact ⟨_, .busy hs⟩
    | xactdone => exact ⟨_, .deliver hs⟩
  | idle =>
    cases e with
    | xactdone => exact ⟨_, .ignored hs⟩
    | msgenq =>
      cases hq : s.q with
      | nil => exact ⟨_, .nothingQueued hs hq⟩
      | cons m rest => exact ⟨_, .dequeue m rest hs hq⟩

theorem exec_xmtEvt_ne_fault (e : XmtEvt) (s : State) (r : Fault) : exec (xmtEvtInstr e) s ≠ .fault r := by
  obtain ⟨t, ht⟩ := exec_xmtEvt_next e s
  rw [ht]
  nofun

theorem exec_ctlEvt_ne_fault (e : CtlEvt) (s : State) (r : Fault) : exec (ctlEvtInstr e) s ≠ .fault r := by
  obtain ⟨t, ht⟩ := exists_ctlStep e s
  rw [ht.exec_eq]
  nofun

/-- No operation of the encoding table faults: a key is its event or refused, and the rest only return a value or submit. -/
theorem exec_ne_fault_of_encodingCase {o : Opc} {f : Format} {bs : List Byte} {i : Instr} (h : EncodingCase o f bs i)
    (s : State) (r : Fault) : exec i s ≠ .fault r := by
  cases h with
  | ctlEvt e => exact exec_ctlEvt_ne_fault e s r
  | xmtEvt e => exact exec_xmtEvt_ne_fault e s r
  | tick | submit | desc => nofun
  | ctlKey st e =>
    rw [exec_ctlKeyInstr]
    split
    · exact exec_ctlEvt_ne_fault e s r
    · nofun
  | xmtKey st e =>
    rw [exec_xmtKeyInstr]
    split
    · exact exec_xmtEvt_ne_fault e s r
    · nofun
  | answer a d =>
    rw [exec_answerRow _ _ s (answerRowOf_answerInstr _ a d), evalAnswerRow]
    split <;> nofun
  | again a d =>
    rw [exec_repeatRow _ _ s (repeatRowOf_repeatInstr _ a d), evalRepeatRow]
    split <;> nofun
  | status st => rw [exec_statusInstr]; nofun

theorem runOp_ne_fault (f : Format) (bytes : List Byte) (s : State) (r : Fault) : runOp f bytes s ≠ .fault r := by
  cases hd : decode s.params.opc f bytes with
  | ok i rest =>
    obtain ⟨bs, hcase, _⟩ := encodingCase_of_decode hd
    rw [runOp_of_ok hd]
    exact exec_ne_fault_of_encodingCase hcase s r
  | error e =>
    rw [runOp_of_error hd]
    nofun

theorem dispatchCtlHead_ne_fault (s : State) (r : Fault) : dispatchCtlHead s ≠ .fault r := by
  cases hq : s.ctlq with
  | nil => rw [dispatchCtlHead_of_nil hq]; nofun
  | cons e later => rw [dispatchCtlHead_of_cons hq]; exact exec_ctlEvt_ne_fault e _ r

theorem dispatchXmtHead_ne_fault (s : State) (r : Fault) : dispatchXmtHead s ≠ .fault r := by
  cases hq : s.xmtq with
  | nil => rw [dispatchXmtHead_of_nil hq]; nofun
  | cons e later => rw [dispatchXmtHead_of_cons hq]; exact exec_xmtEvt_ne_fault e _ r

theorem runRun_ne_fault (s : State) (r : Fault) : runRun s ≠ .fault r := by
  unfold runRun
  split_ifs
  · exact dispatchCtlHead_ne_fault _ r
  · exact dispatchXmtHead_ne_fault _ r
  · nofun

/-- A line of the environment is taken or refused. -/
theorem runRcvDone_ne_fault (bytes : List Byte) (s : State) (r : Fault) : runRcvDone bytes s ≠ .fault r := by
  unfold runRcvDone
  split <;> split_ifs <;> nofun

theorem runRcvErr_ne_fault (s : State) (r : Fault) : runRcvErr s ≠ .fault r := by
  unfold runRcvErr
  split
  · split_ifs <;> nofun
  · nofun

theorem runLine_ne_fault (l : Line) (s : State) (r : Fault) : runLine l s ≠ .fault r := by
  cases l with
  | op f bytes => exact runOp_ne_fault f bytes s r
  | dispatchCtl => exact dispatchCtlHead_ne_fault s r
  | dispatchXmt => exact dispatchXmtHead_ne_fault s r
  | run => exact runRun_ne_fault s r
  | rcvDone bytes => exact runRcvDone_ne_fault bytes s r
  | rcvErr => exact runRcvErr_ne_fault s r
  | xmtDone => simp only [runLine, runXmtDone]; split_ifs <;> nofun
  | edge => simp only [runLine, runEdge]; split_ifs <;> nofun
  | expire => simp only [runLine, runExpire]; split_ifs <;> nofun
  | debug | echoOk | echoBad | respond | waitOut | bad | good => nofun

/-- Settles O52: the guard of R232 keeps CTL from dequeuing where `q` is empty, and nothing else can fault. -/
theorem noStepFaults : Obligations.NoStepFaults := by
  intro s r
  cases hs : s.script with
  | nil => rw [step, hs]; nofun
  | cons l rest => rw [step_of_script hs]; exact runLine_ne_fault l _ r

/-! ### Lines that the contracts refuse (R277 to R281) -/

theorem runXmtDone_of_idle {s : State} (hc : s.params.transmitContract = true) (hidle : s.txBusy = false) :
    runXmtDone s = .refused .transmitIdle := if_pos ⟨hidle, hc⟩

theorem runRcvDone_of_idle {s : State} (bytes : List Byte) (hc : s.params.receiveContract = true) (hidle : s.rxArmed = none) :
    runRcvDone bytes s = .refused .receiveIdle := by
  simp only [runRcvDone, hidle, if_pos hc]

theorem runRcvDone_of_length {s : State} {bytes : List Byte} {b : RxBuf} {n : Nat}
    (hc : s.params.receiveContract = true) (ha : s.rxArmed = some (b, n)) (hne : bytes.length ≠ n) :
    runRcvDone bytes s = .refused .receiveLength := by
  simp only [runRcvDone, ha, if_pos (And.intro hne hc)]

theorem runRcvDone_of_order {s : State} {bytes : List Byte} {n : Nat} (hc : s.params.echoOrderContract = true)
    (hbusy : s.txBusy = true) (ha : s.rxArmed = some (.echo, n)) (hlen : s.params.receiveContract = true → bytes.length = n) :
    runRcvDone bytes s = .refused .echoBeforeTransmitDone := by
  have hlen : ¬(bytes.length ≠ n ∧ s.params.receiveContract = true) := fun ⟨hne, hc⟩ => hne (hlen hc)
  simp only [runRcvDone, ha, if_neg hlen, hbusy, hc, and_self, if_true]

theorem runRcvErr_of_idle {s : State} (hc : s.params.receiveContract = true) (hidle : s.rxArmed = none) :
    runRcvErr s = .refused .receiveIdle := by
  simp only [runRcvErr, hidle, if_pos hc]

theorem runEdge_of_idle {s : State} (hc : s.params.receiveContract = true) (hidle : s.rxArmed = none) :
    runEdge s = .refused .receiveIdle := if_pos ⟨hidle, hc⟩

theorem runExpire_of_idle {s : State} (hc : s.params.timerContract = true) (hidle : s.tmrArmed = false) :
    runExpire s = .refused .timerIdle := if_pos ⟨hidle, hc⟩

/-- The four contracts, each where it is in force (R313). -/
theorem environmentAllows_iff (s : State) (l : Line) : environmentAllows s l = true ↔
    (s.params.transmitContract = true → transmitAllows s l = true) ∧
    (s.params.receiveContract = true → receiveAllows s l = true) ∧
    (s.params.echoOrderContract = true → echoOrderAllows s l = true) ∧
    (s.params.timerContract = true → timerAllows s l = true) := by
  simp only [environmentAllows, Bool.and_eq_true, Bool.or_eq_true, Bool.not_eq_true', ← Bool.not_eq_true, ← imp_iff_not_or,
    and_assoc]

/-- To tell when a line is taken: where it is allowed it answers a next state, and elsewhere it is refused. -/
theorem iff_next_of_next_or_refused {p : Prop} {r : Result} (htaken : p → ∃ t, r = .next t)
    (hrefused : ¬p → ∃ why, r = .refused why) : p ↔ ∃ t, r = .next t := by
  refine ⟨htaken, fun ⟨t, ht⟩ => ?_⟩
  by_contra hp
  obtain ⟨why, hwhy⟩ := hrefused hp
  rw [ht] at hwhy
  contradiction

theorem allows_xmtDone_iff_next (s : State) : environmentAllows s .xmtDone = true ↔ ∃ t, runXmtDone s = .next t := by
  have hallows : environmentAllows s .xmtDone = true ↔ (s.params.transmitContract = true → s.txBusy = true) := by
    simp [environmentAllows_iff, transmitAllows, receiveAllows, echoOrderAllows, timerAllows]
  rw [hallows]
  refine iff_next_of_next_or_refused (fun h => ⟨_, runXmtDone_of_allowed h⟩) fun h => ?_
  obtain ⟨hc, hidle⟩ := Classical.not_imp.mp h
  exact ⟨_, runXmtDone_of_idle hc (Bool.eq_false_iff.mpr hidle)⟩

theorem allows_expire_iff_next (s : State) : environmentAllows s .expire = true ↔ ∃ t, runExpire s = .next t := by
  have hallows : environmentAllows s .expire = true ↔ (s.params.timerContract = true → s.tmrArmed = true) := by
    simp [environmentAllows_iff, transmitAllows, receiveAllows, echoOrderAllows, timerAllows]
  rw [hallows]
  refine iff_next_of_next_or_refused (fun h => ⟨_, runExpire_of_allowed h⟩) fun h => ?_
  obtain ⟨hc, hidle⟩ := Classical.not_imp.mp h
  exact ⟨_, runExpire_of_idle hc (Bool.eq_false_iff.mpr hidle)⟩

/-- A receive error or an edge is allowed while a receive is armed (R279). -/
theorem environmentAllows_of_errorOrEdge {s : State} {l : Line} (hl : l = .rcvErr ∨ l = .edge) :
    environmentAllows s l = true ↔ (s.params.receiveContract = true → s.rxArmed ≠ none) := by
  rcases hl with rfl | rfl <;>
    simp [environmentAllows_iff, transmitAllows, receiveAllows, echoOrderAllows, timerAllows, Option.isSome_iff_ne_none]

theorem allows_edge_iff_next (s : State) : environmentAllows s .edge = true ↔ ∃ t, runEdge s = .next t := by
  rw [environmentAllows_of_errorOrEdge (.inr rfl)]
  refine iff_next_of_next_or_refused (fun h => ⟨_, runEdge_of_allowed h⟩) fun h => ?_
  obtain ⟨hc, hidle⟩ := Classical.not_imp.mp h
  exact ⟨_, runEdge_of_idle hc (not_not.mp hidle)⟩

theorem allows_rcvErr_iff_next (s : State) : environmentAllows s .rcvErr = true ↔ ∃ t, runRcvErr s = .next t := by
  rw [environmentAllows_of_errorOrEdge (.inl rfl)]
  refine iff_next_of_next_or_refused (fun h => ?_) fun h => ?_
  · cases ha : s.rxArmed with
    | none => exact ⟨_, runRcvErr_of_unarmed ha (Bool.eq_false_iff.mpr fun hc => h hc ha)⟩
    | some armed => exact ⟨_, runRcvErr_of_armed ha⟩
  · obtain ⟨hc, hidle⟩ := Classical.not_imp.mp h
    exact ⟨_, runRcvErr_of_idle hc (not_not.mp hidle)⟩

/-- `RCVDONE` without an armed receive is allowed only where R279 is dropped. -/
theorem environmentAllows_rcvDone_of_unarmed {s : State} (bytes : List Byte) (ha : s.rxArmed = none) :
    environmentAllows s (.rcvDone bytes) = true ↔ s.params.receiveContract = false := by
  simp [environmentAllows_iff, transmitAllows, receiveAllows, echoOrderAllows, timerAllows, ha]

/-- `RCVDONE` with an armed receive brings the bytes armed for (R279), and an echo only after its frame is sent (R280). -/
theorem environmentAllows_rcvDone_of_armed {s : State} (bytes : List Byte) {b : RxBuf} {n : Nat}
    (ha : s.rxArmed = some (b, n)) : environmentAllows s (.rcvDone bytes) = true ↔
      (s.params.receiveContract = true → bytes.length = n) ∧
      (b = .echo → s.params.echoOrderContract = true → s.txBusy = false) := by
  simp only [environmentAllows_iff, transmitAllows, receiveAllows, echoOrderAllows, timerAllows, ha]
  simp [eq_comm (a := n), ← imp_iff_not_or, imp.swap (a := b = .echo)]

theorem allows_rcvDone_iff_next (bytes : List Byte) (s : State) :
    environmentAllows s (.rcvDone bytes) = true ↔ ∃ t, runRcvDone bytes s = .next t := by
  cases ha : s.rxArmed with
  | none =>
    rw [environmentAllows_rcvDone_of_unarmed bytes ha]
    refine iff_next_of_next_or_refused (fun hc => ⟨_, runRcvDone_of_unarmed bytes ha hc⟩) fun hc => ?_
    exact ⟨_, runRcvDone_of_idle bytes (by simpa using hc) ha⟩
  | some armed =>
    obtain ⟨b, n⟩ := armed
    rw [environmentAllows_rcvDone_of_armed bytes ha]
    refine iff_next_of_next_or_refused (fun ⟨hlen, horder⟩ => ⟨_, runRcvDone_of_armed ha hlen horder⟩) fun hbroken => ?_
    by_cases hlen : s.params.receiveContract = true → bytes.length = n
    · obtain ⟨rfl, horder⟩ := Classical.not_imp.mp (not_and.mp hbroken hlen)
      obtain ⟨hc, hbusy⟩ := Classical.not_imp.mp horder
      exact ⟨_, runRcvDone_of_order hc (by simpa using hbusy) ha hlen⟩
    · obtain ⟨hc, hne⟩ := Classical.not_imp.mp hlen
      exact ⟨_, runRcvDone_of_length hc ha hne⟩

/-- Settles O39: a refusal rule for each contract; a line is taken exactly where it is allowed. -/
theorem notEnabledLinesRefused : Obligations.NotEnabledLinesRefused := by
  intro s rest
  refine ⟨fun hc hidle hs => ?_, fun hc hidle l hl hs => ?_, fun hc b n bytes ha hne hs => ?_,
    fun hc hbusy n bytes ha hlen hs => ?_, fun hc hidle hs => ?_, fun l hl hs => ?_⟩
  all_goals rw [step_of_script hs]
  · exact runXmtDone_of_idle hc hidle
  · rcases hl with rfl | rfl | ⟨bytes, rfl⟩
    · exact runRcvErr_of_idle hc hidle
    · exact runEdge_of_idle hc hidle
    · exact runRcvDone_of_idle bytes hc hidle
  · exact runRcvDone_of_length hc ha hne
  · exact runRcvDone_of_order hc hbusy ha hlen
  · exact runExpire_of_idle hc hidle
  · change environmentAllows { s with script := rest } l = true ↔ _
    rcases hl with hl | ⟨bytes, rfl⟩
    · simp only [List.mem_cons, List.not_mem_nil, or_false] at hl
      rcases hl with rfl | rfl | rfl | rfl
      · exact allows_xmtDone_iff_next _
      · exact allows_rcvErr_iff_next _
      · exact allows_edge_iff_next _
      · exact allows_expire_iff_next _
    · exact allows_rcvDone_iff_next bytes _

end Sys2Proof.Machine
end
